-- ==== Sys2Proof/Word.lean ====
section
/-! DEFINITION. The word types of the machine (R7, R20): bytes, 64-bit registers and their 32-bit halves. -/

namespace Sys2Proof

/-- One byte of memory or of the instruction stream. -/
abbrev Byte := BitVec 8

/-- A 32-bit `E` register or one half of a 64-bit register (R7). -/
abbrev Half := BitVec 32

/-- A 64-bit register (R7, R20). -/
abbrev Word := BitVec 64

/-- Bits 31:0 of a 64-bit register: its `E` name (R7). -/
def Word.lo (w : Word) : Half := w.extractLsb' 0 32

/-- Bits 63:32 of a 64-bit register. -/
def Word.hi (w : Word) : Half := w.extractLsb' 32 32

/-- The 64-bit register whose halves are `hi` and `lo` (`a : b` of R8). -/
def Word.ofHalves (hi lo : Half) : Word := hi ++ lo

end Sys2Proof
end

