-- ==== Sys2Proof/Prefixes.lean ====
section
/-! DEFINITION. The bytes that may stand before the opcode (R105, G12). -/

namespace Sys2Proof

/-- The segment a segment override names; the leaf ignores it (R105). -/
inductive SegOverride where
  | cs | ss | ds | es | fs | gs
  deriving DecidableEq, Repr

/-- One byte before the opcode, by the classes of R105. -/
inductive PrefixByte where
  | lock
  | repne
  | rep
  | opSize
  | addrSize
  | seg (r : SegOverride)
  | rex (wrxb : BitVec 4)
  deriving DecidableEq, Repr

end Sys2Proof
end

