-- ==== Sys2Proof/Syntax.lean ====
section
/-! DEFINITION. The instruction set: the one row of the opcode table (R110). -/

namespace Sys2Proof

/-- One constructor per row of spec/opcode_table.json. -/
inductive Instr where
  /-- `GETSEC[ENTERACCS]` (R120): `NP 0F 37`, with the bytes standing before the opcode in increasing address
  order. Its operands EAX, EBX, ECX are implicit (R101). -/
  | getsecEnteraccs (before : List PrefixByte)
  deriving DecidableEq, Repr

end Sys2Proof
end

