-- ==== Sys2Proof/WellFormed.lean ====
section
/-! DEFINITION. Which terms of `Instr` are instructions: R107's rules on the bytes before the opcode. -/

namespace Sys2Proof

/-- Whether a byte before the opcode is a REX byte. -/
def PrefixByte.isRex : PrefixByte → Bool
  | .rex _ => true
  | _ => false

/-- R107: a REX byte stands only in 64-bit mode and only as the last byte before the opcode. -/
def rexPlaced (mode64 : Bool) : List PrefixByte → Bool
  | [] => true
  | [p] => !p.isRex || mode64
  | p :: q :: ps => !p.isRex && rexPlaced mode64 (q :: ps)

/-- R107: at most 15 bytes with the two of the opcode, and REX only where it may stand. -/
def Instr.wellFormed (mode64 : Bool) : Instr → Bool
  | .getsecEnteraccs before => decide (before.length ≤ 13) && rexPlaced mode64 before

end Sys2Proof
end

