-- ==== Sys2Proof/Decode.lean ====
section
/-! DEFINITION. The decoder (R100 to R107), total on any bytes, and the encoder written from the same table. -/

namespace Sys2Proof

/-- What the decoder makes of a byte sequence. -/
inductive Decoded where
  /-- An instruction and the bytes after it. -/
  | instr (i : Instr) (rest : List Byte)
  /-- The instruction at these bytes is longer than 15 bytes: `#GP(0)` at decode (R107). -/
  | tooLong
  /-- The bytes end before the instruction does. -/
  | truncated
  /-- Another instruction of the architecture, or none: outside the spec (R5 (b), R107). -/
  | otherOpcode
  deriving DecidableEq, Repr

/-- The segment override bytes (R105, G12). -/
def SegOverride.toByte : SegOverride → Byte
  | .cs => 0x2E#8
  | .ss => 0x36#8
  | .ds => 0x3E#8
  | .es => 0x26#8
  | .fs => 0x64#8
  | .gs => 0x65#8

/-- The byte of each class of R105. -/
def PrefixByte.toByte : PrefixByte → Byte
  | .lock => 0xF0#8
  | .repne => 0xF2#8
  | .rep => 0xF3#8
  | .opSize => 0x66#8
  | .addrSize => 0x67#8
  | .seg r => r.toByte
  | .rex wrxb => 0x4#4 ++ wrxb

/-- The classes of R105 that a byte names in every mode. -/
def legacyPrefix (b : Byte) : Option PrefixByte :=
  if b = 0xF0#8 then some .lock
  else if b = 0xF2#8 then some .repne
  else if b = 0xF3#8 then some .rep
  else if b = 0x66#8 then some .opSize
  else if b = 0x67#8 then some .addrSize
  else if b = 0x2E#8 then some (.seg .cs)
  else if b = 0x36#8 then some (.seg .ss)
  else if b = 0x3E#8 then some (.seg .ds)
  else if b = 0x26#8 then some (.seg .es)
  else if b = 0x64#8 then some (.seg .fs)
  else if b = 0x65#8 then some (.seg .gs)
  else none

/-- `40 .. 4F` (R105). -/
def isRexByte (b : Byte) : Bool := b.extractLsb' 4 4 == 0x4#4

/-- One more byte before the opcode of an instruction. -/
def Instr.addBefore (p : PrefixByte) : Instr → Instr
  | .getsecEnteraccs before => .getsecEnteraccs (p :: before)

/-- One more byte before the opcode of a decoded instruction. -/
def Decoded.addBefore (p : PrefixByte) : Decoded → Decoded
  | .instr i rest => .instr (i.addBefore p) rest
  | .tooLong => .tooLong
  | .truncated => .truncated
  | .otherOpcode => .otherOpcode

/-- The bytes after `0F` (R100): `37` ends the instruction. -/
def decodeSecond : List Byte → Decoded
  | [] => .truncated
  | c :: rest => if c = 0x37#8 then .instr (.getsecEnteraccs []) rest else .otherOpcode

/-- Whether the next byte is the first opcode byte, for the REX rule of R107. -/
def nextIsOpcode : List Byte → Bool
  | [] => false
  | c :: _ => c == 0x0F#8

/-- R107: consume bytes until `0F` is met, with `budget` bytes of the 15 left. A REX byte counts only in 64-bit mode
and directly before `0F`. -/
def decodeWithin (mode64 : Bool) : Nat → List Byte → Decoded
  | 0, _ => .tooLong
  | _ + 1, [] => .truncated
  | n + 1, b :: bs =>
    if b = 0x0F#8 then
      if n = 0 then .tooLong else decodeSecond bs
    else
      match legacyPrefix b with
      | some p => (decodeWithin mode64 n bs).addBefore p
      | none =>
        if mode64 && isRexByte b then
          if n = 0 then .tooLong
          else if bs.isEmpty then .truncated
          else if nextIsOpcode bs then (decodeWithin mode64 n bs).addBefore (.rex (b.extractLsb' 0 4))
          else .otherOpcode
        else .otherOpcode

/-- The decoder: the instruction at the head of `bytes`; `mode64` says whether the processor is in 64-bit mode, the
one thing of the mode that decoding depends on (R108). -/
def decode (mode64 : Bool) (bytes : List Byte) : Decoded := decodeWithin mode64 15 bytes

/-- The words of an instruction (R100, R105). -/
def encode : Instr → List Byte
  | .getsecEnteraccs before => before.map PrefixByte.toByte ++ [0x0F#8, 0x37#8]

/-- `L` of R107: the opcode's two bytes and every byte before them. -/
def Instr.byteLength : Instr → Nat
  | .getsecEnteraccs before => 2 + before.length

/-- `n` bytes of a number, least significant first. -/
def bytesOf : Nat → Nat → List Byte
  | 0, _ => []
  | n + 1, w => BitVec.ofNat 8 w :: bytesOf n (w / 256)

/-- The longest instruction (R107): 15 bytes of a table word, zeros above its `nbits` bits. -/
def tableWordBytes (nbits w : Nat) : List Byte := bytesOf 15 (w % 2 ^ nbits)

/-- The instruction the decoder reads from a word numbered as spec/opcode_table.json numbers it, in a mode other than
64-bit mode (the row holds no REX byte, R110). -/
def decodeTableWord (nbits w : Nat) : Option Instr :=
  match decode false (tableWordBytes nbits w) with
  | .instr i _ => some i
  | .tooLong => none
  | .truncated => none
  | .otherOpcode => none

end Sys2Proof
end

