-- ==== Sys2Proof/Machine/Msrs.lean ====
section
/-! DEFINITION. The machine-specific registers (R26, R28 to R33, R200), apart from State because a parameter of R6 is
a predicate on them (log 40). -/

namespace Sys2Proof.Machine

/-- The MSRs of R26 and R28 to R33, and every other MSR by its address (R200, log 35). -/
structure Msrs where
  efer : Word
  debugctl : Word
  miscEnable : Word
  apicBase : Word
  mcgCap : Word
  mcgStatus : Word
  /-- `IA32_MCi_STATUS`: bank `i` at place `i`; past the end a bank reads 0. -/
  mcStatus : List Word
  /-- MSRs without a field of their own, as (address, value); one not listed reads 0. -/
  others : List (Nat × Word)
  deriving DecidableEq, Repr, Inhabited

end Sys2Proof.Machine
end

