-- ==== Sys2Proof/Config.lean ====
section
/-! DEFINITION. What the source leaves to the implementation (R6, D4, D26, D30): the record `Config`, held by State
as a field no rule writes (R53, log 1), and the free values (D13, D16, D19): constants without a body (log 7). -/

namespace Sys2Proof

/-- Where a header field lies in the module: byte offset and byte width (`ACM_LAYOUT`, R6, R155). -/
structure FieldLoc where
  off : Nat
  width : Nat
  deriving DecidableEq, Repr, Inhabited

/-- `ACM_LAYOUT` (R6): the place of each header field R155 names. -/
structure Layout where
  headerVersion : FieldLoc
  moduleType : FieldLoc
  headerLen : FieldLoc
  codeControl : FieldLoc
  errorEntryPoint : FieldLoc
  entryPoint : FieldLoc
  gdtBasePtr : FieldLoc
  gdtLimit : FieldLoc
  segSel : FieldLoc
  deriving DecidableEq, Repr, Inhabited

/-- A function given by its values at finitely many arguments and one value everywhere else. It stands for the
parameters of R6 that are functions of a byte string or predicates on machine state: the arguments a run can present
are finitely many, so on them every such function is one of these (log 2). -/
structure Table (α β : Type) where
  graph : List (α × β)
  other : β
  deriving DecidableEq, Repr, Inhabited

/-- Memory types (R34, D17): the two the source names, and any other by a code of its own. -/
inductive MemType where
  | uc
  | wb
  | other (code : Byte)
  deriving DecidableEq, Repr, Inhabited

/-- The error names of a TXT shutdown (R215). -/
inductive TxtError where
  | badACMMType
  | unsupportedACM
  | authenticateFail
  | unexpectedHITM
  | badACMFormat
  deriving DecidableEq, Repr, Inhabited

/-- `TXT_ERROR_CODE` (R6, D26): the number of each error name. -/
structure TxtErrorCodes where
  badACMMType : Nat
  unsupportedACM : Nat
  authenticateFail : Nat
  unexpectedHITM : Nat
  badACMFormat : Nat
  deriving DecidableEq, Repr, Inhabited

/-- `Scratch_size` (R6): a function of the ACRAM contents. Either a header field counted in units of `unit` bytes (the
suggested form of R155), or any function of all the bytes of ACRAM. -/
inductive ScratchSize where
  | field (loc : FieldLoc) (unit : Nat)
  | ofAcram (t : Table (List Byte) Nat)
  deriving DecidableEq, Repr, Inhabited

/-- The machine state `OTHER_THERMAL_MONITOR_ENABLED` is a predicate on (R6): the MSRs, and what the thermal control
unit holds outside registers (log 40). -/
structure ThermalContext where
  msr : Machine.Msrs
  unit : Nat
  deriving DecidableEq, Repr, Inhabited

/-- One bit for each of the four external signals the leaf masks (R43). -/
structure PinBits where
  init : Bool
  a20m : Bool
  nmi : Bool
  smi : Bool
  deriving DecidableEq, Repr, Inhabited

/-- The parameters of R6, each under the name the spec gives it. -/
structure Config where
  /-- `ENTERACCS_SUPPORTED` -/
  enteraccsSupported : Bool
  /-- `TXT_CHIPSET_PRESENT`, sampled after reset and fixed from then on (R250) -/
  txtChipsetPresent : Bool
  /-- Bit 6 of the `GETSEC[PARAMETERS]` entry of type 5; `none` when there is no such entry (D28) -/
  mcaHandlingEntry : Option Bool
  /-- `ACRAM_CAPACITY` in bytes -/
  acramCapacity : Nat
  /-- `MIN_MODULE_SIZE` in bytes -/
  minModuleSize : Nat
  /-- `MASK_CONST` -/
  maskConst : Word
  /-- `OTHER_THERMAL_MONITOR_ENABLED`, a predicate on machine state (log 40) -/
  otherThermalMonitorEnabled : Table ThermalContext Bool
  /-- `SIGNATURE_LEN_CONST`, in elements -/
  signatureLen : Nat
  /-- Bytes in one element of a signature (U4) -/
  signatureElemBytes : Nat
  /-- `SUPPORTED_HEADER_VERSIONS` -/
  supportedHeaderVersions : List Nat
  /-- `ACMCONTROL_RESERVED_MASK` -/
  acmControlReserved : Half
  /-- `ACM_LAYOUT` -/
  layout : Layout
  /-- `Scratch_size` -/
  scratchSize : ScratchSize
  /-- `GETKEY` (R158) -/
  getKey : Table (List Byte) (List Byte)
  /-- `HASH` of a key (R159) -/
  hashKey : Table (List Byte) (List Byte)
  /-- `DECRYPT` of the module with a key (R160) -/
  decrypt : Table (List Byte × List Byte) (List Byte)
  /-- `HASH` of the module (R162) -/
  hashModule : Table (List Byte) (List Byte)
  /-- `TXT_PUBLIC_KEY`: what the chipset's register `TXT.PUBLIC.KEY` reads as (R51) -/
  txtPublicKey : List Byte
  /-- `SUPPORTED_MEMTYPES`; empty when `GETSEC[PARAMETERS]` reports none (R253) -/
  supportedMemTypes : List MemType
  /-- What `IA32_MCG_CAP` reads as from reset on; its `COUNT` is `MC_BANK_COUNT` (R31) -/
  mcgCap : Word
  /-- `MC_UNCORRECTABLE` as the list of (mask, value) patterns that make a status word uncorrectable (D25) -/
  mcUncorrectable : List (Word × Word)
  /-- `TXT_ERROR_CODE` -/
  txtErrorCode : TxtErrorCodes
  /-- `NUM_LOGICAL_PROCESSORS` of the ILP's package -/
  numLogicalProcessors : Nat
  /-- `VMEXIT_REASON_GETSEC` (D4) -/
  vmexitReasonGetsec : Nat
  /-- `MASKED_EVENT_LATCHED` (D30) -/
  maskedEventLatched : PinBits
  deriving DecidableEq, Repr, Inhabited

/-- The implementation's own parameters. It has no body: nothing is known of it (R6: none has a value in the source). -/
opaque Config.implementation : Config

/-- Free value (D16, U24): the snoop-HITM draw of load number `n`. -/
opaque Config.freeHitm : Nat → Bool

/-- Free value (D13, U5): what byte `o` of ACRAM holds at load number `n` where the module gives it no byte. -/
opaque Config.freePad : Nat → Nat → Byte

/-- Free value (D13, U4): what byte `o` of the scratch area holds after authentication number `n`. -/
opaque Config.freeScratch : Nat → Nat → Byte

/-- Free values (D19, U19): bits 63:32 of `RBX`, `RCX`, `RDX`, `RBP` after launch number `n` where no 64-bit value is
carried. -/
opaque Config.freeRbxHi : Nat → Half
opaque Config.freeRcxHi : Nat → Half
opaque Config.freeRdxHi : Nat → Half
opaque Config.freeRbpHi : Nat → Half

/-- What a walk of the paging structures depends on; the source gives no page-table format, nor whether structures in
the ACRAM range are read from ACRAM (R78, R82; log 12). -/
structure PagingContext where
  cr0 : Word
  cr3 : Word
  cr4 : Word
  efer : Word
  mem : List Host.Cell
  /-- Base and bytes of ACRAM; `none` while it is not mapped -/
  acram : Option (Nat × List Byte)
  deriving DecidableEq, Repr, Inhabited

/-- Free value (R82): the physical address a walk of the paging structures gives a linear address, `none` where it
gives none (log 12). -/
opaque Config.pageWalk : PagingContext → Nat → Option Nat

end Sys2Proof
end

