-- ==== Sys2Proof/Machine/State.lean ====
section
/-! DEFINITION. The state of the machine (10_state.md) as plain data, the reasons a step can stop, and the state
after reset. -/

namespace Sys2Proof.Machine

/-- The sixteen general registers (R20). -/
structure Gpr where
  rax : Word
  rcx : Word
  rdx : Word
  rbx : Word
  rsp : Word
  rbp : Word
  rsi : Word
  rdi : Word
  r8 : Word
  r9 : Word
  r10 : Word
  r11 : Word
  r12 : Word
  r13 : Word
  r14 : Word
  r15 : Word
  deriving DecidableEq, Repr

/-- Control registers (R24, R25; CR2 and CR3 are named by R200). -/
structure Ctrl where
  cr0 : Word
  cr2 : Word
  cr3 : Word
  cr4 : Word
  deriving DecidableEq, Repr

/-- Debug registers (R27; DR0 to DR6 are named by R200; log 34). -/
structure Dbg where
  dr0 : Word
  dr1 : Word
  dr2 : Word
  dr3 : Word
  dr4 : Word
  dr5 : Word
  dr6 : Word
  dr7 : Word
  deriving DecidableEq, Repr

/-- `MemTypeOf` (R34, D17): a type for every 4096-byte page, the first entry of a page before the default (log 18);
pages have no upper bound (log 44). -/
structure MemTypes where
  pages : List (Nat × MemType)
  default : MemType
  deriving DecidableEq, Repr

/-- A segment register: selector and hidden descriptor fields (R35, R36). `L` is R39's and D21's for `CS`; that every
segment register has one is the model's choice (log 37), as is the 64-bit `BASE` (log 41). -/
structure Seg where
  sel : BitVec 16
  base : Word
  limit : BitVec 20
  g : Bool
  d : Bool
  l : Bool
  ar : BitVec 8
  deriving DecidableEq, Repr

/-- The segment registers (R35, R36). -/
structure Segs where
  cs : Seg
  ds : Seg
  es : Seg
  ss : Seg
  fs : Seg
  gs : Seg
  tr : Seg
  ldtr : Seg
  deriving DecidableEq, Repr

/-- `GDTR` or `IDTR` (R37, R38). The spec gives `IDTR` no fields and no widths: that it has those of `GDTR` is taken
from the family (PRESUMED, log 42). -/
structure DescTable where
  base : Word
  limit : BitVec 16
  deriving DecidableEq, Repr

/-- VMX state (R42). -/
inductive Vmx where
  | notInVmx
  | root
  | nonRoot
  deriving DecidableEq, Repr

/-- The range armed by `MONITOR` (R45). -/
structure MonitorRange where
  base : Nat
  size : Nat
  deriving DecidableEq, Repr

/-- A transaction the ILP has issued and that has not completed (R84, log 19). The spec gives an I/O transaction no
address and no size (R70): the 16-bit port and the 32-bit value are the model's choice (log 38). -/
inductive Outgoing where
  | store (addr : Nat) (value : Byte)
  | io (port : BitVec 16) (value : Half)
  deriving DecidableEq, Repr

/-- `ACRAM` (R47): whether it is mapped, at which physical base, and the bytes of the allocation (R77, R78). -/
structure AcRam where
  mapped : Bool
  base : Nat
  bytes : List Byte
  deriving DecidableEq, Repr

/-- Activity of a logical processor (R48); `other` is any activity the architecture has besides these three. -/
inductive Activity where
  | running
  | waitForSipi
  | senterSleep
  | other
  deriving DecidableEq, Repr

/-- What the leaf can see of another logical processor (R48, R131, R254). -/
structure Rlp where
  samePackage : Bool
  enabled : Bool
  activity : Activity
  cr0CD : Bool
  deriving DecidableEq, Repr

/-- The chipset's flags (R51, D29). -/
structure Chipset where
  processorHold : Bool
  privateOpen : Bool
  locality3Open : Bool
  deriving DecidableEq, Repr

/-- The exceptions the leaf raises (R210). -/
inductive Exc where
  /-- `#UD` (R211). -/
  | ud
  /-- `#GP` with an error code (R212). -/
  | gp (errorCode : Half)
  deriving DecidableEq, Repr

/-- How the last step ended (R11, D3 to D5; log 3). -/
inductive Status where
  /-- The processor executes. -/
  | running
  /-- Outcome `Exception(vector, code)`: all else unchanged, `RIP` at the instruction. -/
  | exception (e : Exc)
  /-- Outcome `VMExit(GETSEC)` with the reason's number. -/
  | vmExit (reason : Nat)
  /-- Outcome `TxtShutdown(name)` with the name's error code: terminal. -/
  | txtShutdown (e : TxtError) (code : Nat)
  deriving DecidableEq, Repr

/-- Everything the spec gives the machine (10_state.md), and the model's own `status`, `idtStale`, `heldEvents`,
`thermalUnit`, `draws` and `cfg`. -/
structure State where
  gpr : Gpr
  rip : Word
  eflags : Half
  ctrl : Ctrl
  dbg : Dbg
  msr : Msrs
  memTypes : MemTypes
  seg : Segs
  gdtr : DescTable
  idtr : DescTable
  /-- `ACMODEFLAG` (R40) -/
  acModeFlag : Bool
  /-- `IN_SMM` (R41) -/
  inSmm : Bool
  vmx : Vmx
  /-- `MASK_INIT`, `MASK_A20M`, `MASK_NMI`, `MASK_SMI` (R43) -/
  masks : PinBits
  /-- Assertions made while masked and held (`MASKED_EVENT_LATCHED`, D30; log 22) -/
  heldEvents : PinBits
  /-- The internal A20M level (R43) -/
  a20m : Bool
  pendingSingleStep : Bool
  monitor : Option MonitorRange
  /-- Cached translations as (linear page, physical page) (R46) -/
  tlb : List (Nat × Nat)
  /-- The ILP's transactions not yet completed, oldest first (R84) -/
  outgoing : List Outgoing
  acram : AcRam
  /-- The ILP's own activity (R48) -/
  activity : Activity
  rlps : List Rlp
  /-- The snoop-HITM indicator (R49) -/
  snoopHitm : Bool
  /-- What the thermal control unit holds outside registers, as a code without a format (R6, R151; log 40) -/
  thermalUnit : Nat
  ierr : Bool
  chipset : Chipset
  /-- Physical memory (R52), its addresses without an upper bound (log 44) -/
  mem : List Host.Cell
  status : Status
  /-- Between `Launched` and the reload of `IDTR` (R219, R258; log 20) -/
  idtStale : Bool
  /-- The number of the next draw of free values (log 7) -/
  draws : Nat
  /-- The parameters of R6: no rule writes them (R53, log 1) -/
  cfg : Config
  deriving DecidableEq, Repr

/-- Why a step stops for good. Each is raised by `step` alone, on a state whose last step ended in the outcome named,
and each is safe: the machine stops where the hardware goes on in a way the source does not give. -/
inductive Fault where
  /-- `step`, after `Exception(#UD)` or `Exception(#GP, 0)`: delivery is outside the source (R218, D3). Safe. -/
  | exceptionDelivery (e : Exc)
  /-- `step`, after `VMExit(GETSEC)`: the exit itself is outside the source (R214, D4). Safe. -/
  | vmExitDelivery
  /-- `step`, after `TxtShutdown(name)`: the processor executes nothing further (R215, D5). Safe. -/
  | txtReset (e : TxtError)
  deriving DecidableEq, Repr

/-- Why the model gives no meaning. Each is safe: nothing is claimed of what follows. -/
inductive Refusal where
  /-- `exec`: an instruction without a meaning yet (none is left). Safe. -/
  | notModelled (mnemonic : String)
  /-- `execGetsecEnteraccs`: GETSEC leaf other than ENTERACCS, not specified (R104, U22). Safe. -/
  | otherGetsecLeaf
  /-- `step`: the bytes at the instruction pointer are no `0F 37` (R5 (b), R107). Safe. -/
  | otherInstruction
  /-- `step`: a byte of the instruction has no translation; the source gives no page-table format and no fetch
  fault (R82, R217). Safe. -/
  | fetchNotTranslated
  /-- `execGetsecEnteraccs`: a launch while some address outside the module has an unsupported memory type
  (R253, U12). Safe. -/
  | memTypesOutsideModule
  /-- `execGetsecEnteraccs`: a launch while a logical processor of another package is not idle (R254, U17). Safe. -/
  | platformNotIdle
  /-- `step`: an exception between `Launched` and the reload of `IDTR` (R219, U15). Safe. -/
  | exceptionBeforeNewIdt (e : Exc)
  /-- `step`: the processor is idle (R48), and what wakes it is outside the spec. Safe. -/
  | processorIdle
  /-- `assertPin`: the response to an unmasked signal is outside the spec (R220). Safe. -/
  | signalResponse
  deriving DecidableEq, Repr

/-- A data or system segment after reset (log 5). -/
def resetSeg (ar : BitVec 8) : Seg :=
  { sel := 0x0000#16, base := 0#64, limit := 0x0FFFF#20, g := false, d := false, l := false, ar := ar }

/-- `CS` after reset (log 5). -/
def resetCs : Seg :=
  { sel := 0xF000#16, base := 0x00000000FFFF0000#64, limit := 0x0FFFF#20, g := false, d := false, l := false,
    ar := 0x93#8 }

/-- No pin. -/
def noPins : PinBits := { init := false, a20m := false, nmi := false, smi := false }

/-- Another logical processor of the package after reset (R54; log 32). -/
def resetRlp : Rlp := { samePackage := true, enabled := true, activity := .waitForSipi, cr0CD := true }

/-- The machine right after reset: R54 and R250 where they give a value, else the family's (logs 5, 6). -/
def State.reset : State :=
  { gpr :=
      { rax := 0#64, rcx := 0#64, rdx := 0x0000000000000600#64, rbx := 0#64, rsp := 0#64, rbp := 0#64, rsi := 0#64,
        rdi := 0#64, r8 := 0#64, r9 := 0#64, r10 := 0#64, r11 := 0#64, r12 := 0#64, r13 := 0#64, r14 := 0#64,
        r15 := 0#64 }
    rip := 0x000000000000FFF0#64
    eflags := 0x00000002#32
    ctrl := { cr0 := 0x0000000060000010#64, cr2 := 0#64, cr3 := 0#64, cr4 := 0#64 }
    dbg :=
      { dr0 := 0#64, dr1 := 0#64, dr2 := 0#64, dr3 := 0#64, dr4 := 0#64, dr5 := 0#64, dr6 := 0x00000000FFFF0FF0#64,
        dr7 := 0x0000000000000400#64 }
    msr :=
      { efer := 0#64, debugctl := 0#64, miscEnable := 0x0000000000000001#64, apicBase := 0x00000000FEE00900#64,
        mcgCap := Config.implementation.mcgCap, mcgStatus := 0#64, mcStatus := [], others := [] }
    memTypes := { pages := [], default := .uc }
    seg :=
      { cs := resetCs, ds := resetSeg 0x93#8, es := resetSeg 0x93#8, ss := resetSeg 0x93#8, fs := resetSeg 0x93#8,
        gs := resetSeg 0x93#8, tr := resetSeg 0x8B#8, ldtr := resetSeg 0x82#8 }
    gdtr := { base := 0#64, limit := 0xFFFF#16 }
    idtr := { base := 0#64, limit := 0xFFFF#16 }
    acModeFlag := false
    inSmm := false
    vmx := .notInVmx
    masks := noPins
    heldEvents := noPins
    a20m := false
    pendingSingleStep := false
    monitor := none
    tlb := []
    outgoing := []
    acram := { mapped := false, base := 0, bytes := [] }
    activity := .running
    rlps := List.replicate (Config.implementation.numLogicalProcessors - 1) resetRlp
    snoopHitm := false
    thermalUnit := 0
    ierr := false
    chipset := { processorHold := false, privateOpen := false, locality3Open := false }
    mem := []
    status := .running
    idtStale := false
    draws := 0
    cfg := Config.implementation }

end Sys2Proof.Machine
end

