-- ==== Sys2Proof/Machine/Ops.lean ====
section
/-! DEFINITION. The named operations every meaning goes through: memory, the tables of Config, the fields of registers
and MSRs, the modes, and the three ways an execution ends other than in `Launched`. -/

namespace Sys2Proof

/-- The value of a tabled function (log 2): the first entry for the argument, else the value everywhere else. -/
def Table.lookup {α β : Type} [DecidableEq α] (x : α) : List (α × β) → β → β
  | [], d => d
  | (a, v) :: r, d => if a = x then v else Table.lookup x r d

/-- Application of a tabled function (log 2). -/
def Table.apply {α β : Type} [DecidableEq α] (t : Table α β) (x : α) : β := Table.lookup x t.graph t.other

/-! ### The parameters as the rules read them -/

/-- `MCA_HANDLING` (R127, D28): 0 when there is no entry of type 5. -/
def Config.mcaHandling (c : Config) : Bool := c.mcaHandlingEntry.getD false

/-- `MC_UNCORRECTABLE` (R33, D25): the status word agrees with one of the patterns. -/
def Config.isUncorrectable (c : Config) (w : Word) : Bool := c.mcUncorrectable.any fun p => w &&& p.1 == p.2

/-- The reserved bits of `ACMCONTROL`: bits 0 and 1 are never among them (R6; log 25). -/
def Config.reservedControl (c : Config) : Nat := (c.acmControlReserved &&& 0xFFFFFFFC#32).toNat

/-- `SUPPORTED_MEMTYPES`, `{UC}` when none is reported (R253). -/
def Config.memTypesAllowed (c : Config) : List MemType :=
  if c.supportedMemTypes.isEmpty then [.uc] else c.supportedMemTypes

/-- `TXT_ERROR_CODE` (R6, D26). -/
def Config.errorCode (c : Config) : TxtError → Nat
  | .badACMMType => c.txtErrorCode.badACMMType
  | .unsupportedACM => c.txtErrorCode.unsupportedACM
  | .authenticateFail => c.txtErrorCode.authenticateFail
  | .unexpectedHITM => c.txtErrorCode.unexpectedHITM
  | .badACMFormat => c.txtErrorCode.badACMFormat

namespace Machine

/-! ### Memory (R52, R70): (address, byte) pairs, addresses rising, no entry equal to what an unlisted byte reads as -/

/-- Memory as a sparse list (R52). -/
abbrev Memory := List Host.Cell

/-- What an address not listed reads as (log 4). -/
def unlistedByte : Byte := 0x00#8

/-- One byte of memory. -/
def Memory.read : Memory → Nat → Byte
  | [], _ => unlistedByte
  | (b, v) :: r, a => if b = a then v else Memory.read r a

/-- Writing one byte; the canonical form is kept. -/
def Memory.write : Memory → Nat → Byte → Memory
  | [], a, v => if v = unlistedByte then [] else [(a, v)]
  | (b, u) :: r, a, v =>
    if a < b then (if v = unlistedByte then (b, u) :: r else (a, v) :: (b, u) :: r)
    else if a = b then (if v = unlistedByte then r else (a, v) :: r)
    else (b, u) :: Memory.write r a v

/-- Whether every address of the list is above `a`. -/
def Memory.above (a : Nat) : Memory → Bool
  | [] => true
  | (b, _) :: _ => decide (a < b)

/-- The canonical form: addresses strictly rising, no entry equal to what an unlisted address reads as. -/
def Memory.wf : Memory → Bool
  | [] => true
  | (a, v) :: r => decide (v ≠ unlistedByte) && Memory.above a r && Memory.wf r

/-- `PhysRead(a, n)` (R10, R74): the bytes at `a .. a+n-1`. -/
def Memory.readBytes (m : Memory) : Nat → Nat → List Byte
  | _, 0 => []
  | a, n + 1 => m.read a :: Memory.readBytes m (a + 1) n

/-- Completing the outgoing transactions, oldest first (R84): stores reach memory; what an I/O transaction does to a
device is not in the source (R70). -/
def Memory.complete : Memory → List Outgoing → Memory
  | m, [] => m
  | m, .store a v :: r => Memory.complete (m.write a v) r
  | m, .io _ _ :: r => Memory.complete m r

/-- Physical memory as the ILP's own earlier stores left it (R83). Those still under way count as later than every store
of another agent to the same address: the model's choice (log 46). -/
def State.memView (s : State) : Memory := Memory.complete s.mem s.outgoing

/-! ### Memory types (R34) -/

/-- The type of page `p`: its first entry, else the default. -/
def MemTypes.ofPage (t : MemTypes) (p : Nat) : MemType := Table.lookup p t.pages t.default

/-- `MemTypeOf` (R34): the granularity is 4096 bytes (log 18). -/
def State.memTypeOf (s : State) (a : Nat) : MemType := s.memTypes.ofPage (a / 4096)

/-! ### Fields of control registers and MSRs (R24 to R33; the positions are G3, G4, G6: log 26) -/

/-- Bits cleared in a register, the others unchanged (R10). -/
def clearBits (w mask : Word) : Word := w &&& ~~~mask

def State.cr0PE (s : State) : Bool := s.ctrl.cr0.getLsbD 0
def State.cr0NE (s : State) : Bool := s.ctrl.cr0.getLsbD 5
def State.cr0WP (s : State) : Bool := s.ctrl.cr0.getLsbD 16
def State.cr0AM (s : State) : Bool := s.ctrl.cr0.getLsbD 18
def State.cr0NW (s : State) : Bool := s.ctrl.cr0.getLsbD 29
def State.cr0CD (s : State) : Bool := s.ctrl.cr0.getLsbD 30
def State.cr0PG (s : State) : Bool := s.ctrl.cr0.getLsbD 31
def State.cr4MCE (s : State) : Bool := s.ctrl.cr4.getLsbD 6
def State.cr4SMXE (s : State) : Bool := s.ctrl.cr4.getLsbD 14
def State.eferLMA (s : State) : Bool := s.msr.efer.getLsbD 10
/-- `IA32_APIC_BASE.BSP (Bit 8)`: the source's own position (R30). -/
def State.bsp (s : State) : Bool := s.msr.apicBase.getLsbD 8
def State.mcip (s : State) : Bool := s.msr.mcgStatus.getLsbD 2
/-- `MC_BANK_COUNT` (R31): `COUNT`, bits 7:0. -/
def State.mcBankCount (s : State) : Nat := (s.msr.mcgCap.extractLsb' 0 8).toNat
/-- `IA32_MCi_STATUS` (R33). -/
def State.mcStatus (s : State) (i : Nat) : Word := s.msr.mcStatus.getD i 0#64

/-- `PG`, `AM`, `WP` of `CR0` (R182). -/
def cr0LaunchMask : Word := 0x0000000080050000#64

/-- `MCE` of `CR4` (R183). -/
def cr4LaunchMask : Word := 0x0000000000000040#64

/-- `OTHER_THERMAL_MONITOR_ENABLED` (R6, R151): the predicate at this state (log 40). -/
def State.otherThermalMonitor (s : State) : Bool :=
  s.cfg.otherThermalMonitorEnabled.apply { msr := s.msr, unit := s.thermalUnit }

/-! ### Segments -/

/-- `DPL` of an access-rights byte: bits 6:5 (R35, G9). -/
def Seg.dpl (g : Seg) : BitVec 2 := g.ar.extractLsb' 5 2

/-- `RPL` of a selector: bits 1:0 (R171, G8). -/
def selRpl (v : Nat) : Nat := v % 4

/-- `TI` of a selector: bit 2 (R171, G8). -/
def selTi (v : Nat) : Bool := v.testBit 2

/-! ### How an execution ends (R11) -/

/-- Taking an exception as far as the source describes it (R213, R216, D3): the outcome is recorded and nothing else
changes, so `RIP` still addresses the instruction, its first prefix byte included. Delivery is outside (R218). -/
def State.takeException (e : Exc) (s : State) : State := { s with status := .exception e }

/-- The vector of an exception (R211, R212, G7). -/
def Exc.vector : Exc → Nat
  | .ud => 6
  | .gp _ => 13

/-- The error code of an exception (R211, R212): `#UD` has none. -/
def Exc.errorCode : Exc → Option Half
  | .ud => none
  | .gp code => some code

/-- `VMExit(GETSEC)` (R214, D4): the guest state is unchanged, `RIP` at the instruction. -/
def State.takeVmExit (s : State) : State := { s with status := .vmExit s.cfg.vmexitReasonGetsec }

/-- `TXT-SHUTDOWN(#name)` (R215, D5): terminal; the state reached stays as it is. -/
def State.txtShutdown (e : TxtError) (s : State) : State := { s with status := .txtShutdown e (s.cfg.errorCode e) }

end Machine
end Sys2Proof
end

