-- ==== Sys2Proof/Machine/Flags.lean ====
section
/-! DEFINITION. `EFLAGS` (R23): the places of its flags, and the one value the leaf writes (R184). -/

namespace Sys2Proof.Machine

/-- The one-bit flags of `EFLAGS` (R23). -/
inductive Flag where
  | cf | pf | af | zf | sf | tf | intf | df | of | nt | rf | vm | ac | vif | vip | id
  deriving DecidableEq, Repr

/-- The bit a flag stands at (R23, G5: log 26). -/
def Flag.position : Flag → Nat
  | .cf => 0
  | .pf => 2
  | .af => 4
  | .zf => 6
  | .sf => 7
  | .tf => 8
  | .intf => 9
  | .df => 10
  | .of => 11
  | .nt => 14
  | .rf => 16
  | .vm => 17
  | .ac => 18
  | .vif => 19
  | .vip => 20
  | .id => 21

/-- The value of a flag. -/
def State.flag (s : State) (f : Flag) : Bool := s.eflags.getLsbD f.position

/-- `IOPL`, bits 13:12 (R23). -/
def State.iopl (s : State) : BitVec 2 := s.eflags.extractLsb' 12 2

/-- What `Launched` writes to `EFLAGS` (R184): every flag 0, the reserved bit 1 set. -/
def launchFlags : Half := 0x00000002#32

end Sys2Proof.Machine
end

