-- ==== Sys2Proof/Machine/Modes.lean ====
section
/-! DEFINITION. Mode and privilege (R39, G15; log 26). -/

namespace Sys2Proof.Machine

/-- The modes of R39 and R224. -/
inductive Mode where
  | real
  | virtual8086
  | protected32
  | compatibility
  | long64
  deriving DecidableEq, Repr

/-- The mode the processor is in (R39). -/
def State.mode (s : State) : Mode :=
  if !s.cr0PE then .real
  else if s.flag .vm then .virtual8086
  else if !s.eferLMA then .protected32
  else if s.seg.cs.l then .long64
  else .compatibility

/-- 64-bit mode: the one mode decoding (R107) and the width of `RIP` (R22) depend on. -/
def State.in64 (s : State) : Bool := s.mode == .long64

/-- IA-32e mode, 64-bit or compatibility mode: `GDTR.BASE` is 64 bits wide there (R37, R188). -/
def State.inIa32e (s : State) : Bool := s.mode == .long64 || s.mode == .compatibility

/-- `CPL` (R39). -/
def State.cpl (s : State) : Nat :=
  if !s.cr0PE then 0 else if s.flag .vm then 3 else (s.seg.cs.sel.extractLsb' 0 2).toNat

end Sys2Proof.Machine
end

