-- ==== Sys2Proof/Machine/Operands.lean ====
section
/-! DEFINITION. The operands of the leaf, all implicit (R101): `EAX`, `EBX`, `ECX`, and the header fields of the
module in `ACRAM` (R155). -/

namespace Sys2Proof.Machine

/-- `EAX`, the leaf number (R103). -/
def State.eax (s : State) : Half := s.gpr.rax.lo

/-- `ACBASE <- EBX` (R71, R129). -/
def State.acBase (s : State) : Nat := s.gpr.rbx.lo.toNat

/-- `ACSIZE <- ECX` (R71, R129). -/
def State.acSize (s : State) : Nat := s.gpr.rcx.lo.toNat

/-- `ACRAM_ALLOC = 4096 * ceil(ACSIZE / 4096)` (R77). -/
def acramAlloc (acSize : Nat) : Nat := 4096 * ((acSize + 4095) / 4096)

/-- The free values of one load and launch (log 7). -/
structure Draws where
  /-- The snoop-HITM indicator (D16). -/
  hitm : Bool
  /-- Byte `o` of ACRAM where the module gives none (D13, log 10). -/
  pad : Nat → Byte
  /-- Byte `o` of the scratch area after authentication (D13). -/
  scratch : Nat → Byte
  /-- Upper halves where no 64-bit value is carried (D19). -/
  rbxHi : Half
  rcxHi : Half
  rdxHi : Half
  rbpHi : Half

/-- The free values of draw `n`: Config's constants without a body. -/
def drawsAt (n : Nat) : Draws :=
  { hitm := Config.freeHitm n
    pad := Config.freePad n
    scratch := Config.freeScratch n
    rbxHi := Config.freeRbxHi n
    rcxHi := Config.freeRcxHi n
    rdxHi := Config.freeRdxHi n
    rbpHi := Config.freeRbpHi n }

/-- `w` bytes of ACRAM from `off` on, least significant byte first (R72); outside the allocation a free value
(log 10). -/
def fieldValue (pad : Nat → Byte) (ram : List Byte) : Nat → Nat → Nat
  | _, 0 => 0
  | off, w + 1 => (ram.getD off (pad off)).toNat + 256 * fieldValue pad ram (off + 1) w

/-- `ACRAM[f]` (R155). -/
def acramField (pad : Nat → Byte) (ram : List Byte) (f : FieldLoc) : Nat := fieldValue pad ram f.off f.width

/-- The values of the header fields of R155, and `Scratch_size`. -/
structure Header where
  version : Nat
  moduleType : Nat
  headerLen : Nat
  codeControl : Nat
  errorEntryPoint : Nat
  entryPoint : Nat
  gdtBasePtr : Nat
  gdtLimit : Nat
  segSel : Nat
  scratchSize : Nat
  deriving DecidableEq, Repr

/-- `Scratch_size`, a function of all that ACRAM holds (R6, R155). -/
def scratchBytes (c : Config) (pad : Nat → Byte) (ram : List Byte) : Nat :=
  match c.scratchSize with
  | .field loc unit => acramField pad ram loc * unit
  | .ofAcram t => t.apply ram

/-- The header as ACRAM holds it (R155). -/
def readHeader (c : Config) (pad : Nat → Byte) (ram : List Byte) : Header :=
  { version := acramField pad ram c.layout.headerVersion
    moduleType := acramField pad ram c.layout.moduleType
    headerLen := acramField pad ram c.layout.headerLen
    codeControl := acramField pad ram c.layout.codeControl
    errorEntryPoint := acramField pad ram c.layout.errorEntryPoint
    entryPoint := acramField pad ram c.layout.entryPoint
    gdtBasePtr := acramField pad ram c.layout.gdtBasePtr
    gdtLimit := acramField pad ram c.layout.gdtLimit
    segSel := acramField pad ram c.layout.segSel
    scratchSize := scratchBytes c pad ram }

/-- Where the scratch area begins: after the header (R155; log 8). -/
def Header.scratchStart (h : Header) : Nat := h.headerLen * 4

/-- The first offset usable for the GDT and the entry point: `HeaderLen * 4 + Scratch_size` (R155, R165). -/
def Header.bodyStart (h : Header) : Nat := h.headerLen * 4 + h.scratchSize

/-- `ACMCONTROL.0` and `ACMCONTROL.1` (R163). -/
def Header.control0 (h : Header) : Bool := h.codeControl.testBit 0
def Header.control1 (h : Header) : Bool := h.codeControl.testBit 1

/-- `EntryOff` (R167): the error entry point when both control bits are set and a snoop hit was seen. -/
def Header.entryOff (h : Header) (hitm : Bool) : Nat :=
  if h.control0 && h.control1 && hitm then h.errorEntryPoint else h.entryPoint

end Sys2Proof.Machine
end

