-- ==== Sys2Proof/Machine/Checks.lean ====
section
/-! DEFINITION. The checks before any state changes: lines 0 to 8 of R120 (40_enteraccs_checks.md). -/

namespace Sys2Proof.Machine

/-- The bytes that may not stand before the opcode (R102, R105): `F0`, `F2`, `F3`, `66`. -/
def isForbidden : PrefixByte → Bool
  | .lock => true
  | .repne => true
  | .rep => true
  | .opSize => true
  | .addrSize => false
  | .seg _ => false
  | .rex _ => false

/-- Line 0 of R120 (R106): some byte before the opcode is forbidden. -/
def carriesForbidden (before : List PrefixByte) : Bool := before.any isForbidden

/-- The leaf number of ENTERACCS (R103). -/
def enteraccsLeaf : Half := 2#32

/-- The eleven conditions of R125, in its order. -/
def State.modeFault (s : State) : Bool :=
  s.vmx == .root || !s.cr0PE || s.cr0CD || s.cr0NW || !s.cr0NE || decide (0 < s.cpl) || s.flag .vm || !s.bsp ||
    !s.cfg.txtChipsetPresent || s.acModeFlag || s.inSmm

/-- R127: with `MCA_HANDLING = 0`, some bank holds a valid uncorrectable error. -/
def State.bankFault (s : State) : Bool :=
  !s.cfg.mcaHandling && (List.range s.mcBankCount).any fun i => s.cfg.isUncorrectable (s.mcStatus i)

/-- R128: machine-check processing in progress. -/
def State.machineCheckFault (s : State) : Bool := s.mcip || s.ierr

/-- R129: base and size, in unbounded naturals (R9, D8). -/
def State.rangeFault (s : State) : Bool :=
  decide (s.acBase % 4096 ≠ 0) || decide (s.acSize % 64 ≠ 0) || decide (s.acSize < s.cfg.minModuleSize) ||
    decide (s.cfg.acramCapacity < s.acSize) || decide (2 ^ 32 - 1 < s.acBase + s.acSize)

/-- Idle in the wait-for-SIPI state or the SENTER sleep state (R48); any other activity is not idle (U18). -/
def Activity.isIdle : Activity → Bool
  | .running => false
  | .waitForSipi => true
  | .senterSleep => true
  | .other => false

/-- A member of the set `S` of R131: enabled, in the ILP's package. -/
def Rlp.isSecondary (p : Rlp) : Bool := p.samePackage && p.enabled

/-- R131: some enabled processor of the package has `CR0.CD = 1` or is not idle. -/
def State.threadFault (s : State) : Bool :=
  s.rlps.any fun p => p.isSecondary && (p.cr0CD || !p.activity.isIdle)

/-- What lines 0 to 8 of R120 decide. -/
inductive PreLaunch where
  | ud
  | otherLeaf
  | vmExit
  | gp
  | pass
  deriving DecidableEq, Repr

/-- Lines 0 to 8 of R120, in its order (R121, R217). The forbidden bytes come first whatever the state (R106), then
the leaf number, which says whether this is the instruction of the spec at all (R104; log 13). -/
def preLaunch (before : List PrefixByte) (s : State) : PreLaunch :=
  if carriesForbidden before then .ud
  else if s.eax ≠ enteraccsLeaf then .otherLeaf
  else if !s.cr4SMXE then .ud
  else if s.vmx = .nonRoot then .vmExit
  else if !s.cfg.enteraccsSupported then .ud
  else if s.modeFault || s.bankFault || s.machineCheckFault || s.rangeFault || s.threadFault then .gp
  else .pass

end Sys2Proof.Machine
end

