-- ==== Sys2Proof/Machine/Launch.lean ====
section
/-! DEFINITION. From the event masking to the last check of the module: lines 9 to 24 of R120
(41_enteraccs_launch.md). -/

namespace Sys2Proof.Machine

/-! ### Preparation (R150 to R153) -/

/-- Every pin. -/
def allPins : PinBits := { init := true, a20m := true, nmi := true, smi := true }

/-- Bit 3 of `IA32_MISC_ENABLE`, thermal monitor enable (R29). -/
def thermalBit : Word := 0x0000000000000008#64

/-- The new value of `IA32_MISC_ENABLE` (R151): the AND with `MASK_CONST`, then bit 3 on its own. -/
def newMiscEnable (maskConst : Word) (otherThermal : Bool) (old : Word) : Word :=
  if old.getLsbD 3 || !otherThermal then (old &&& maskConst) ||| thermalBit else clearBits (old &&& maskConst) thermalBit

/-- The MSRs after R151 and R152: `IA32_MISC_ENABLE`, `IA32_DEBUGCTL`; the thermal predicate is that of the state
before both writes (D12, log 40). -/
def preparedMsrs (s : State) : Msrs :=
  { s.msr with
    miscEnable := newMiscEnable s.cfg.maskConst s.otherThermalMonitor s.msr.miscEnable
    debugctl := 0#64 }

/-- Lines 9 to 12 of R120: the four masks (R150); `IA32_MISC_ENABLE` and, its side effect, the MONITOR armed state
(R151, R45); the A20M level, `IA32_DEBUGCTL`, the TLBs and the drain (R152, R84); `ACMODEFLAG` and the message
`ProcessorHold` (R153). -/
def State.prepare (s : State) : State :=
  { s with
    masks := allPins
    msr := preparedMsrs s
    monitor := none
    a20m := false
    tlb := []
    mem := s.memView
    outgoing := []
    acModeFlag := true
    chipset := { s.chipset with processorHold := true } }

/-! ### Load (R154) -/

/-- `n` pad bytes from offset `o` on: indeterminate data (R77, U5). -/
def padBytes (pad : Nat → Byte) : Nat → Nat → List Byte
  | _, 0 => []
  | o, n + 1 => pad o :: padBytes pad (o + 1) n

/-- The bytes of ACRAM after the load (R154): the module, then the pad up to `ACRAM_ALLOC`. -/
def loadedBytes (pad : Nat → Byte) (mem : Memory) (acBase acSize : Nat) : List Byte :=
  mem.readBytes acBase acSize ++ padBytes pad acSize (acramAlloc acSize - acSize)

/-- Line 13 of R120: ACRAM is loaded and mapped at the module's base (R78), the snoop-HITM indicator takes its value
(R49, R154), and the draw is spent. -/
def State.load (d : Draws) (s : State) : State :=
  { s with
    acram := { mapped := true, base := s.acBase, bytes := loadedBytes d.pad s.mem s.acBase s.acSize }
    snoopHitm := d.hitm
    draws := s.draws + 1 }

/-! ### Memory type, module kind, authentication (R156 to R162) -/

/-- Whether `n` pages from page `p` on are all `WB`. -/
def pagesAreWb (t : MemTypes) : Nat → Nat → Bool
  | _, 0 => true
  | p, n + 1 => t.ofPage p == .wb && pagesAreWb t (p + 1) n

/-- R156, R79: every address of the allocation has memory type `WB`. -/
def State.acramIsWb (s : State) : Bool := pagesAreWb s.memTypes (s.acBase / 4096) (acramAlloc s.acSize / 4096)

/-- R157: a supported header version and `ModuleType = 2`. -/
def kindSupported (c : Config) (h : Header) : Bool :=
  c.supportedHeaderVersions.contains h.version && h.moduleType == 2

/-- The first `n` bytes of a string, zeros where it is shorter. -/
def takePadded (n : Nat) (l : List Byte) : List Byte := (l ++ List.replicate n 0x00#8).take n

/-- `KEY <- GETKEY(ACRAM, ACBASE)` (R158). -/
def moduleKey (c : Config) (m : List Byte) : List Byte := c.getKey.apply m

/-- R159: the hash of the key is the one the chipset holds. -/
def keyAccepted (c : Config) (m : List Byte) : Bool := c.hashKey.apply (moduleKey c m) == c.txtPublicKey

/-- `SIGNATURE <- DECRYPT(ACRAM, ACBASE, KEY)` (R160): `SIGNATURE_LEN_CONST` elements, as bytes. -/
def moduleSignature (c : Config) (m : List Byte) : List Byte :=
  takePadded (c.signatureLen * c.signatureElemBytes) (c.decrypt.apply (m, moduleKey c m))

/-- `f` at every byte of a string, with its offset. -/
def mapOffsets (f : Nat → Byte → Byte) : Nat → List Byte → List Byte
  | _, [] => []
  | o, b :: bs => f o b :: mapOffsets f (o + 1) bs

/-- `v` written over a string from offset `start` on (R161). What of `v` reaches past the scratch area is written too,
as far as the string goes: the model's choice (log 45). -/
def overlay (start : Nat) (v : List Byte) (m : List Byte) : List Byte :=
  mapOffsets (fun o b => if start ≤ o then v.getD (o - start) b else b) 0 m

/-- `COMPUTEDSIGNATURE <- HASH(ACRAM, ACBASE, ACSIZE)` (R162), after scratch write 1 (R161). -/
def computedSignature (c : Config) (scratchStart : Nat) (m : List Byte) : List Byte :=
  takePadded (c.signatureLen * c.signatureElemBytes) (c.hashModule.apply (overlay scratchStart (moduleSignature c m) m))

/-- R162: the two signatures agree. -/
def signatureAccepted (c : Config) (scratchStart : Nat) (m : List Byte) : Bool :=
  moduleSignature c m == computedSignature c scratchStart m

/-- The predicate `Authentic` of R162 (D15), on the module's bytes and the chipset's key hash (log 9). -/
def authentic (c : Config) (scratchStart : Nat) (m : List Byte) : Bool :=
  keyAccepted c m && signatureAccepted c scratchStart m

/-- The header as ACRAM holds it now. -/
def State.header (d : Draws) (s : State) : Header := readHeader s.cfg d.pad s.acram.bytes

/-- The module's own bytes in ACRAM: the first `ACSIZE`. -/
def State.moduleBytes (s : State) : List Byte := s.acram.bytes.take s.acSize

/-- Lines 14 to 16 of R120, on the loaded module. -/
def State.loadFault (d : Draws) (s : State) : Option TxtError :=
  if !s.acramIsWb then some .badACMMType
  else if !kindSupported s.cfg (s.header d) then some .unsupportedACM
  else if !keyAccepted s.cfg s.moduleBytes then some .authenticateFail
  else none

/-- The scratch area as authentication leaves it (R161, R162): every byte of it a free value (R78, D13; log 8). -/
def State.overwriteScratch (d : Draws) (s : State) : State :=
  { s with
    acram :=
      { s.acram with
        bytes :=
          mapOffsets
            (fun o b => if (s.header d).scratchStart ≤ o ∧ o < (s.header d).bodyStart then d.scratch o else b)
            0 s.acram.bytes } }

/-! ### Consistency of the header (R163 to R171) -/

/-- R163: a snoop hit the module asked to be shut down on. -/
def hitmUnexpected (h : Header) (hitm : Bool) : Bool := !h.control0 && h.control1 && hitm

/-- R164: a reserved bit of `ACMCONTROL` is set. -/
def controlReserved (c : Config) (h : Header) : Bool := decide (h.codeControl &&& c.reservedControl ≠ 0)

/-- R165: the GDT lies before the end of the scratch area or ends outside the module. -/
def gdtMisplaced (acSize : Nat) (h : Header) : Bool :=
  decide (h.gdtBasePtr < h.bodyStart) || decide (acSize ≤ h.gdtBasePtr + h.gdtLimit)

/-- R168: the entry offset lies outside the module's body (C5, D10, D11). -/
def entryMisplaced (acSize off : Nat) (h : Header) : Bool := decide (acSize ≤ off) || decide (off < h.bodyStart)

/-- R169: the limit does not fit 16 bits. -/
def limitTooWide (h : Header) : Bool := decide (h.gdtLimit &&& 0xFFFF0000 ≠ 0)

/-- R170: the selector is out of range; the difference is taken in the integers (D8). -/
def selectorOutOfRange (h : Header) : Bool :=
  decide ((h.gdtLimit : Int) - 15 < (h.segSel : Int)) || decide (h.segSel < 8)

/-- R171: `TI = 1` or `RPL ≠ 0`. -/
def selectorMalformed (h : Header) : Bool := selTi h.segSel || decide (selRpl h.segSel ≠ 0)

/-- Lines 18 to 24 of R120, in its order. -/
def formatFault (c : Config) (acSize : Nat) (hitm : Bool) (h : Header) : Option TxtError :=
  if hitmUnexpected h hitm then some .unexpectedHITM
  else if controlReserved c h then some .badACMFormat
  else if gdtMisplaced acSize h then some .badACMFormat
  else if entryMisplaced acSize (h.entryOff hitm) h then some .badACMFormat
  else if limitTooWide h then some .badACMFormat
  else if selectorOutOfRange h then some .badACMFormat
  else if selectorMalformed h then some .badACMFormat
  else none

end Sys2Proof.Machine
end

