-- ==== Sys2Proof/Machine/Init.lean ====
section
/-! DEFINITION. The register state of `Launched`: lines 25 to 27 of R120 (42_enteraccs_state_init.md). Every value is
computed from the state before the writes, so that the saved values are the ones at entry (R181). -/

namespace Sys2Proof.Machine

/-- R182, R183. -/
def launchCtrl (c : Ctrl) : Ctrl :=
  { c with cr0 := clearBits c.cr0 cr0LaunchMask, cr4 := clearBits c.cr4 cr4LaunchMask }

/-- R185, R195: `IA32_EFER` and, again, `IA32_DEBUGCTL`; `IA32_MISC_ENABLE` keeps what R151 gave it (R194). -/
def launchMsrs (m : Msrs) : Msrs := { m with efer := 0#64, debugctl := 0#64 }

/-- `DR7` (R193). -/
def launchDr7 : Word := 0x0000000000000400#64

/-- `[E|R]BX` (R186): the next instruction pointer; outside 64-bit mode its 32 bits, the upper half free (D19, D20). -/
def savedIp (hi : Half) (len : Nat) (s : State) : Word :=
  if s.in64 then s.rip + BitVec.ofNat 64 len else Word.ofHalves hi (s.rip.lo + BitVec.ofNat 32 len)

/-- `ECX` (R187): `GDTR.LIMIT : CS.SEL`, the upper half free (D19). -/
def savedLimitCs (hi : Half) (s : State) : Word := Word.ofHalves hi (s.gdtr.limit ++ s.seg.cs.sel)

/-- `[E|R]DX` (R188): `GDTR.BASE`; outside IA-32e mode its 32 bits, the upper half free (D19). -/
def savedGdtBase (hi : Half) (s : State) : Word :=
  if s.inIa32e then s.gdtr.base else Word.ofHalves hi s.gdtr.base.lo

/-- R186 to R189: the four registers the leaf writes. -/
def launchGprs (d : Draws) (len : Nat) (s : State) : Gpr :=
  { s.gpr with
    rbx := savedIp d.rbxHi len s
    rcx := savedLimitCs d.rcxHi s
    rdx := savedGdtBase d.rdxHi s
    rbp := Word.ofHalves d.rbpHi s.gpr.rbx.lo }

/-- `CS` of R191. -/
def launchCs (segSel : Nat) : Seg :=
  { sel := BitVec.ofNat 16 segSel, base := 0#64, limit := 0xFFFFF#20, g := true, d := true, l := false, ar := 0x9B#8 }

/-- `DS` of R192. The spec gives `DS` no `L` (D21 speaks of `CS.L` alone): that the launch clears it is the model's
choice (log 37). -/
def launchDs (segSel : Nat) : Seg :=
  { sel := BitVec.ofNat 16 (segSel + 8), base := 0#64, limit := 0xFFFFF#20, g := true, d := true, l := false,
    ar := 0x93#8 }

/-- `GDTR` of R190. No descriptor is read from it (R37). -/
def launchGdtr (acBase : Nat) (h : Header) : DescTable :=
  { base := BitVec.ofNat 64 (acBase + h.gdtBasePtr), limit := BitVec.ofNat 16 h.gdtLimit }

/-- `EIP <- ACBASE + EntryOff`, `RIP[63:32] <- 0` (R199). -/
def launchRip (acBase off : Nat) : Word := Word.ofHalves 0#32 (BitVec.ofNat 32 (acBase + off))

/-- Lines 25 to 27 of R120: the registers (R182 to R193), the pending single-step trap (R196), the messages
`OpenPrivate` and `OpenLocality3` (R198), the jump (R199). From here to the reload of `IDTR` no exception can be
handled (R219). -/
def State.complete (d : Draws) (len : Nat) (h : Header) (s : State) : State :=
  { s with
    gpr := launchGprs d len s
    rip := launchRip s.acBase (h.entryOff s.snoopHitm)
    eflags := launchFlags
    ctrl := launchCtrl s.ctrl
    dbg := { s.dbg with dr7 := launchDr7 }
    msr := launchMsrs s.msr
    seg := { s.seg with cs := launchCs h.segSel, ds := launchDs h.segSel }
    gdtr := launchGdtr s.acBase h
    pendingSingleStep := false
    chipset := { s.chipset with privateOpen := true, locality3Open := true }
    idtStale := true }

end Sys2Proof.Machine
end

