-- ==== Sys2Proof/Machine/Enteraccs.lean ====
section
/-! DEFINITION. The meaning of `GETSEC[ENTERACCS]` (R120). -/

namespace Sys2Proof.Machine

/-- R253, U12: every address outside the allocation has a supported memory type. Physical addresses have no upper bound,
the model's choice (log 44), so the default type counts always. -/
def State.outsideTypesAllowed (s : State) : Bool :=
  s.cfg.memTypesAllowed.contains s.memTypes.default &&
    s.memTypes.pages.all fun e =>
      (decide (s.acBase / 4096 ≤ e.1) && decide (e.1 < s.acBase / 4096 + acramAlloc s.acSize / 4096)) ||
        s.cfg.memTypesAllowed.contains (s.memTypes.ofPage e.1)

/-- R254, U17: every logical processor of another package is idle, enabled or not; those of the ILP's package are
R131's (log 17). -/
def State.platformIdle (s : State) : Bool := s.rlps.all fun p => p.samePackage || p.activity.isIdle

/-- The state in which lines 14 to 16 are decided: prepared and loaded (lines 9 to 13). -/
def State.loaded (d : Draws) (s : State) : State := s.prepare.load d

/-- The state in which lines 18 to 24 are decided: authentication has overwritten the scratch area. -/
def State.authenticated (d : Draws) (s : State) : State := (s.loaded d).overwriteScratch d

/-- Line 17 on the loaded module (R160 to R162), then lines 18 to 24 on what authentication left (log 8). -/
def State.moduleFault (d : Draws) (s : State) : Option TxtError :=
  if !signatureAccepted s.cfg ((s.loaded d).header d).scratchStart (s.loaded d).moduleBytes then
    some .authenticateFail
  else formatFault s.cfg s.acSize d.hitm ((s.authenticated d).header d)

/-- The state of `Launched`: lines 25 to 27 on what authentication left. -/
def State.launched (d : Draws) (len : Nat) (s : State) : State :=
  (s.authenticated d).complete d len ((s.authenticated d).header d)

/-- Lines 9 to 27 of R120, once no `#GP(0)` is possible any more (R150). A launch that violates R253 or R254 is given
no meaning (U12, U17; log 16). -/
def launch (d : Draws) (len : Nat) (s : State) : Host.Outcome State Fault Refusal :=
  match (s.loaded d).loadFault d with
  | some e => .next ((s.loaded d).txtShutdown e)
  | none =>
    match s.moduleFault d with
    | some e => .next ((s.authenticated d).txtShutdown e)
    | none =>
      if !s.outsideTypesAllowed then .refused .memTypesOutsideModule
      else if !s.platformIdle then .refused .platformNotIdle
      else .next (s.launched d len)

/-- R120 with the free values of the execution given. -/
def enteraccs (d : Draws) (before : List PrefixByte) (s : State) : Host.Outcome State Fault Refusal :=
  match preLaunch before s with
  | .ud => .next (s.takeException .ud)
  | .otherLeaf => .refused .otherGetsecLeaf
  | .vmExit => .next s.takeVmExit
  | .gp => .next (s.takeException (.gp 0#32))
  | .pass => launch d (Instr.byteLength (.getsecEnteraccs before)) s

/-- `GETSEC[ENTERACCS]` (R120), with the free values of the state's next draw. -/
def execGetsecEnteraccs (before : List PrefixByte) (s : State) : Host.Outcome State Fault Refusal :=
  enteraccs (drawsAt s.draws) before s

end Sys2Proof.Machine
end

