-- ==== Sys2Proof/Machine/Dispatch.lean ====
section
/-! DEFINITION. One arm per constructor of `Instr`. -/

namespace Sys2Proof.Machine

def exec (i : Instr) (s : State) : Host.Outcome State Fault Refusal :=
  match i with
  -- R120
  | .getsecEnteraccs before => Sys2Proof.Machine.execGetsecEnteraccs before s

end Sys2Proof.Machine
end

