-- ==== Sys2Proof/Machine/Fetch.lean ====
section
/-! DEFINITION. Reading the instruction's bytes at `RIP` (R22, R53, R78, R86), and storing an instruction there. -/

namespace Sys2Proof.Machine

/-- The linear address of byte `k` at the instruction pointer: `CS.BASE` plus the offset, of 64 bits in 64-bit mode
(where the base counts as 0) and of 32 bits elsewhere (R22, R82; log 11). -/
def State.fetchLinear (s : State) (k : Nat) : Nat :=
  if s.in64 then (s.rip + BitVec.ofNat 64 k).toNat
  else (s.seg.cs.base.lo + (s.rip.lo + BitVec.ofNat 32 k)).toNat

/-- The cached translation of a linear page (R46). -/
def tlbLookup (page : Nat) : List (Nat × Nat) → Option Nat
  | [] => none
  | (l, p) :: r => if l = page then some p else tlbLookup page r

/-- What a walk of the paging structures may depend on: external memory and ACRAM alike, so that nothing is settled of
structures that lie in the ACRAM range (R78, log 12). -/
def State.pagingContext (s : State) : PagingContext :=
  { cr0 := s.ctrl.cr0
    cr3 := s.ctrl.cr3
    cr4 := s.ctrl.cr4
    efer := s.msr.efer
    mem := s.memView
    acram := if s.acram.mapped then some (s.acram.base, s.acram.bytes) else none }

/-- The physical address of a linear one: the same with paging off (R82); else from the TLB, else a walk, of which
nothing is known (log 12). -/
def State.translate (s : State) (linear : Nat) : Option Nat :=
  if !s.cr0PG then some linear
  else
    match tlbLookup (linear / 4096) s.tlb with
    | some p => some (p * 4096 + linear % 4096)
    | none => Config.pageWalk s.pagingContext linear

/-- Whether a physical address is served by ACRAM (R78). -/
def AcRam.covers (r : AcRam) (a : Nat) : Bool :=
  r.mapped && decide (r.base ≤ a) && decide (a < r.base + r.bytes.length)

/-- The ILP's read of one byte of the physical address space: from ACRAM in its range, else from memory as its own
stores left it (R78, R83). In ACRAM's range a store still under way to the address is not seen: the model's choice (R86
gives no rule; log 43). -/
def State.ilpRead (s : State) (a : Nat) : Byte :=
  if s.acram.covers a then s.acram.bytes.getD (a - s.acram.base) unlistedByte else s.memView.read a

/-- The bytes at the instruction pointer from byte `k` on, `n` of them or as many as have a translation. -/
def State.fetchFrom (s : State) : Nat → Nat → List Byte
  | _, 0 => []
  | k, n + 1 =>
    match s.translate (s.fetchLinear k) with
    | none => []
    | some a => s.ilpRead a :: State.fetchFrom s (k + 1) n

/-- The longest instruction's bytes at the instruction pointer (R107). -/
def State.fetchBytes (s : State) : List Byte := s.fetchFrom 0 15

/-- External memory with bytes put at the instruction pointer of `s`, from byte `k` on, where ACRAM does not serve the
address. -/
def State.memWithBytes (s : State) : Nat → List Byte → Memory → Memory
  | _, [], m => m
  | k, v :: vs, m =>
    State.memWithBytes s (k + 1) vs
      (match s.translate (s.fetchLinear k) with
       | none => m
       | some a => if s.acram.covers a then m else m.write a v)

/-- ACRAM with bytes put at the instruction pointer of `s`, from byte `k` on, where it serves the address. -/
def State.ramWithBytes (s : State) : Nat → List Byte → List Byte → List Byte
  | _, [], ram => ram
  | k, v :: vs, ram =>
    State.ramWithBytes s (k + 1) vs
      (match s.translate (s.fetchLinear k) with
       | none => ram
       | some a => if s.acram.covers a then ram.set (a - s.acram.base) v else ram)

/-- What a fetch needs besides the bytes (log 21): a running processor, no store of its own still under way, and the
leaf number in `EAX`, which the table's row has for its condition. -/
def State.readyToFetch (s : State) : State :=
  { s with
    gpr := { s.gpr with rax := Word.ofHalves s.gpr.rax.hi 0x00000002#32 }
    mem := s.memView
    outgoing := []
    activity := .running
    status := .running }

/-- The state with an instruction's bytes at the instruction pointer. -/
def State.placeInstr (s : State) (bytes : List Byte) : State :=
  { s.readyToFetch with
    mem := s.memWithBytes 0 bytes s.memView
    acram := { s.acram with bytes := s.ramWithBytes 0 bytes s.acram.bytes } }

end Sys2Proof.Machine
end

