-- ==== Sys2Proof/Machine/Step.lean ====
section
/-! DEFINITION. One step of the ILP: fetch, decode, execute; and the stops after an outcome whose continuation is
outside the source (log 3). -/

namespace Sys2Proof.Machine

/-- What the decoder's answer leads to. A sequence longer than 15 bytes is `#GP(0)` at decode (R107). -/
def runDecoded (s : State) : Decoded → Host.Outcome State Fault Refusal
  | .instr i _ => exec i s
  | .tooLong => .next (s.takeException (.gp 0#32))
  | .truncated => .refused .fetchNotTranslated
  | .otherOpcode => .refused .otherInstruction

/-- A processor that executes: only a `Running` one does (R48). The instruction runs whatever `DR0` to `DR3` and `DR7`
hold: a code breakpoint on it, and its priority, are not modelled (R217, log 39). -/
def runActive (s : State) : Host.Outcome State Fault Refusal :=
  match s.activity with
  | .running => runDecoded s (decode s.in64 s.fetchBytes)
  | .waitForSipi => .refused .processorIdle
  | .senterSleep => .refused .processorIdle
  | .other => .refused .processorIdle

/-- After an exception outcome: delivery is outside the source (R218); before a new IDT the model refuses to
continue (R219). -/
def afterException (s : State) (e : Exc) : Host.Outcome State Fault Refusal :=
  if s.idtStale then .refused (.exceptionBeforeNewIdt e) else .fault (.exceptionDelivery e)

/-- One step. -/
def step (s : State) : Host.Outcome State Fault Refusal :=
  match s.status with
  | .running => runActive s
  | .exception e => afterException s e
  | .vmExit _ => .fault .vmExitDelivery
  | .txtShutdown e _ => .fault (.txtReset e)

/-- The state with the instruction of a table word, zeros above it, where the next fetch reads it, and the leaf
selected (log 21). -/
def State.withFetchWord (s : State) (nbits w : Nat) : State := s.placeInstr (tableWordBytes nbits w)

end Sys2Proof.Machine
end

