-- ==== Sys2Proof/Machine/Agents.lean ====
section
/-! DEFINITION. Accesses of other processor agents between two steps (R80, R83; log 23). -/

namespace Sys2Proof.Machine

/-- An access of a processor agent other than the ILP (R80). The 16-bit port and the 32-bit value of an I/O access are the
model's choice (R70, log 38). -/
inductive AgentAccess where
  | read (addr : Nat)
  | write (addr : Nat) (value : Byte)
  | io (port : BitVec 16) (value : Half)
  /-- An implicit write-back transaction: the one kind still allowed under the hold (R80, R87). -/
  | implicitWriteBack (addr : Nat) (value : Byte)
  deriving DecidableEq, Repr

/-- Whether the hold blocks an access (R80). -/
def AgentAccess.isBlocked (a : AgentAccess) (s : State) : Bool :=
  match a with
  | .read _ => s.chipset.processorHold
  | .write _ _ => s.chipset.processorHold
  | .io _ _ => s.chipset.processorHold
  | .implicitWriteBack _ _ => false

/-- What an access that is let through does: a store changes external memory and never ACRAM, whose contents are
isolated from external agents (R78, R154). A store of the ILP still under way to the address completes after it, so the
ILP's byte stands: the model's choice (R83 gives no rule; log 46). -/
def AgentAccess.perform (a : AgentAccess) (s : State) : State :=
  match a with
  | .read _ => s
  | .write addr value => { s with mem := Memory.write s.mem addr value }
  | .io _ _ => s
  | .implicitWriteBack addr value => { s with mem := Memory.write s.mem addr value }

/-- An access of another agent: `none` when it is blocked (R80). -/
def agentAccess (a : AgentAccess) (s : State) : Option State := if a.isBlocked s then none else some (a.perform s)

end Sys2Proof.Machine
end

