-- ==== Sys2Proof/Machine/Events.lean ====
section
/-! DEFINITION. External signals (R43, R220, R221): which of them the ILP responds to, and what an assertion of a pin
between two steps does (log 22). -/

namespace Sys2Proof.Machine

/-- The event sources of R220 that can reach a running ILP from outside. -/
inductive Signal where
  | init
  | a20m
  | nmi
  | smi
  | intr
  | machineCheck
  deriving DecidableEq, Repr

/-- Whether the ILP responds to a signal (R43, R220): the four pins unless masked, `INTR` by `EFLAGS.IF`, the
machine-check exception by `CR4.MCE`. -/
def State.respondsTo (s : State) : Signal → Bool
  | .init => !s.masks.init
  | .a20m => !s.masks.a20m
  | .nmi => !s.masks.nmi
  | .smi => !s.masks.smi
  | .intr => s.flag .intf
  | .machineCheck => s.cr4MCE

/-- The four pins the leaf masks (R43). -/
inductive Pin where
  | init
  | a20m
  | nmi
  | smi
  deriving DecidableEq, Repr

/-- The signal a pin carries. -/
def Pin.signal : Pin → Signal
  | .init => .init
  | .a20m => .a20m
  | .nmi => .nmi
  | .smi => .smi

/-- The bit of a pin. -/
def pinBit (b : PinBits) : Pin → Bool
  | .init => b.init
  | .a20m => b.a20m
  | .nmi => b.nmi
  | .smi => b.smi

/-- The bits with one pin's set when `v` is. -/
def orPin (b : PinBits) (v : Bool) : Pin → PinBits
  | .init => { b with init := b.init || v }
  | .a20m => { b with a20m := b.a20m || v }
  | .nmi => { b with nmi := b.nmi || v }
  | .smi => { b with smi := b.smi || v }

/-- An assertion of a pin between two steps. While its mask is 1 the processor does not respond (R43); whether the
assertion is held is the parameter `MASKED_EVENT_LATCHED` (D30, U21). The response to an unmasked pin is outside the
spec. -/
def assertPin (p : Pin) (s : State) : Host.Outcome State Fault Refusal :=
  if pinBit s.masks p then
    .next { s with heldEvents := orPin s.heldEvents (pinBit s.cfg.maskedEventLatched p) p }
  else .refused .signalResponse

end Sys2Proof.Machine
end

