-- ==== Sys2Proof/Safety.lean ====
section
/-! DEFINITION. The terms claims are stated in: the conditions of R251 under which the leaf reaches `Launched`,
written from the rules and not from the checks of the model, and the invariants of the machine. -/

namespace Sys2Proof.Machine

/-- The header as the loaded module has it, before authentication (R155). -/
def State.loadedHeader (d : Draws) (s : State) : Header := (s.loaded d).header d

/-- The bytes ACRAM holds once authentication has overwritten the scratch area of the loaded module. -/
def State.finalBytes (d : Draws) (s : State) : List Byte :=
  mapOffsets
    (fun o b =>
      if (s.loadedHeader d).scratchStart ≤ o ∧ o < (s.loadedHeader d).bodyStart then d.scratch o else b)
    0 (loadedBytes d.pad s.memView s.acBase s.acSize)

/-- The header as ACRAM has it once authentication has overwritten the scratch area (R161, R162). -/
def State.finalHeader (d : Draws) (s : State) : Header := (s.authenticated d).header d

/-- The last address of the ACRAM allocation plus one (R77). -/
def State.acEnd (s : State) : Nat := s.acBase + acramAlloc s.acSize

/-- The conditions that let lines 0 to 3 of R120 pass: the leaf is ENTERACCS, allowed and available. -/
structure LeafAvailable (before : List PrefixByte) (s : State) : Prop where
  allowed : ∀ p ∈ before, p ≠ .lock ∧ p ≠ .repne ∧ p ≠ .rep ∧ p ≠ .opSize
  leaf : s.eax = 2#32
  smxe : s.cr4SMXE = true
  notNonRoot : s.vmx ≠ .nonRoot
  supported : s.cfg.enteraccsSupported = true

/-- None of the eleven conditions of R125. -/
structure ModeAccepted (s : State) : Prop where
  notRoot : s.vmx ≠ .root
  pe : s.cr0PE = true
  cd : s.cr0CD = false
  nw : s.cr0NW = false
  ne : s.cr0NE = true
  cpl : s.cpl = 0
  vm : s.flag .vm = false
  bsp : s.bsp = true
  chipset : s.cfg.txtChipsetPresent = true
  notAcMode : s.acModeFlag = false
  notSmm : s.inSmm = false

/-- No machine-check condition of R127 or R128. -/
structure NoMachineCheck (s : State) : Prop where
  banks : s.cfg.mcaHandling = false → ∀ i, i < s.mcBankCount → s.cfg.isUncorrectable (s.mcStatus i) = false
  mcip : s.mcip = false
  ierr : s.ierr = false

/-- None of the conditions of R129. -/
structure RangeAccepted (s : State) : Prop where
  base : s.acBase % 4096 = 0
  size : s.acSize % 64 = 0
  min : s.cfg.minModuleSize ≤ s.acSize
  max : s.acSize ≤ s.cfg.acramCapacity
  top : s.acBase + s.acSize ≤ 2 ^ 32 - 1

/-- Every enabled logical processor of the package is idle with `CR0.CD = 0` (R131). -/
def SecondariesIdle (s : State) : Prop :=
  ∀ p ∈ s.rlps, p.samePackage = true → p.enabled = true →
    p.cr0CD = false ∧ (p.activity = .waitForSipi ∨ p.activity = .senterSleep)

/-- No `#UD`, no VM exit and no `#GP(0)`: lines 0 to 8 of R120 pass (R251). -/
structure ChecksPass (before : List PrefixByte) (s : State) : Prop where
  available : LeafAvailable before s
  mode : ModeAccepted s
  noMachineCheck : NoMachineCheck s
  range : RangeAccepted s
  secondaries : SecondariesIdle s

/-- The whole allocation has memory type `WB` (R79, R156). -/
def AcramWriteBack (s : State) : Prop := ∀ a, s.acBase ≤ a → a < s.acEnd → s.memTypeOf a = .wb

/-- A header of the supported kind (R157). -/
def KindAccepted (c : Config) (h : Header) : Prop := h.version ∈ c.supportedHeaderVersions ∧ h.moduleType = 2

/-- The bytes of the module in physical memory, as the ILP's own stores left it (R74, R83). -/
def State.sourceBytes (s : State) : List Byte := s.memView.readBytes s.acBase s.acSize

/-- The module is authentic (R158 to R162). -/
def ModuleAuthentic (d : Draws) (s : State) : Prop :=
  authentic s.cfg (s.loadedHeader d).scratchStart s.sourceBytes = true

/-- The condition of R163: a snoop hit that the module asks to be shut down on. -/
def HitmUnexpected (h : Header) (hitm : Bool) : Prop :=
  h.codeControl.testBit 0 = false ∧ h.codeControl.testBit 1 = true ∧ hitm = true

/-- None of the conditions of R164, R165, R168 to R171. -/
structure HeaderConsistent (c : Config) (acSize : Nat) (hitm : Bool) (h : Header) : Prop where
  reserved : h.codeControl &&& c.reservedControl = 0
  gdtLow : h.headerLen * 4 + h.scratchSize ≤ h.gdtBasePtr
  gdtHigh : h.gdtBasePtr + h.gdtLimit < acSize
  entryLow : h.headerLen * 4 + h.scratchSize ≤ h.entryOff hitm
  entryHigh : h.entryOff hitm < acSize
  limit : h.gdtLimit &&& 0xFFFF0000 = 0
  selHigh : (h.segSel : Int) ≤ (h.gdtLimit : Int) - 15
  selLow : 8 ≤ h.segSel
  selTi : h.segSel.testBit 2 = false
  selRpl : h.segSel % 4 = 0

/-- No TXT shutdown: lines 14 to 24 of R120 pass with the free values `d` (R251). -/
structure ModuleAccepted (d : Draws) (s : State) : Prop where
  writeBack : AcramWriteBack s
  kind : KindAccepted s.cfg (s.loadedHeader d)
  authentic : ModuleAuthentic d s
  noHitm : ¬ HitmUnexpected (s.finalHeader d) d.hitm
  header : HeaderConsistent s.cfg s.acSize d.hitm (s.finalHeader d)

/-- The obligations on the platform without which a launch has no meaning (R253, R254). -/
structure PlatformReady (s : State) : Prop where
  outside : ∀ a, ¬ (s.acBase ≤ a ∧ a < s.acEnd) → s.memTypeOf a ∈ s.cfg.memTypesAllowed
  others : ∀ p ∈ s.rlps, p.samePackage = false → p.activity = .waitForSipi ∨ p.activity = .senterSleep

/-- Everything the leaf needs to reach `Launched` with the free values `d` (R251, R253, R254). -/
structure LaunchReady (d : Draws) (before : List PrefixByte) (s : State) : Prop where
  checks : ChecksPass before s
  module : ModuleAccepted d s
  platform : PlatformReady s

/-- Memory is in its canonical form (R52). -/
def MemCanonical (s : State) : Prop := Memory.wf s.mem = true

/-- What authenticated code execution mode comes with (R225): the masks, the hold; and the chipset's spaces are open
only in it. That the model's own mark `idtStale` stands only in it is the model's clause (log 20). -/
structure AcModeInv (s : State) : Prop where
  masked : s.acModeFlag = true → s.masks = allPins
  held : s.acModeFlag = true → s.chipset.processorHold = true
  noA20 : s.acModeFlag = true → s.a20m = false
  openOnly : s.chipset.privateOpen = true → s.acModeFlag = true
  localityOnly : s.chipset.locality3Open = true → s.acModeFlag = true
  staleOnly : s.idtStale = true → s.acModeFlag = true

/-- ACRAM is mapped in whole 4096-byte blocks on a 4096-byte boundary (R75, R77). -/
structure AcramGeometry (s : State) : Prop where
  base : s.acram.mapped = true → s.acram.base % 4096 = 0
  size : s.acram.mapped = true → s.acram.bytes.length % 4096 = 0

/-- The processor executes (R48): its last step left it running and it is not idle. -/
structure Executing (s : State) : Prop where
  status : s.status = .running
  activity : s.activity = .running

/-- The number a byte string stands for, least significant byte first (R72). -/
def littleEndian : List Byte → Nat
  | [] => 0
  | b :: bs => b.toNat + 256 * littleEndian bs

/-- The module-relative offset `EntryOff` of R167, written out from the rule. -/
def entryOffset (h : Header) (hitm : Bool) : Nat :=
  if h.codeControl.testBit 0 = true ∧ h.codeControl.testBit 1 = true ∧ hitm = true then h.errorEntryPoint
  else h.entryPoint

/-- The newest store to an address among the ILP's transactions under way (R83, R84). -/
def newestStore (a : Nat) : List Outgoing → Option Byte
  | [] => none
  | .store b v :: r => (newestStore a r).or (if b = a then some v else none)
  | .io _ _ :: r => newestStore a r

/-- A run is safe up to `n` steps when no step stops it with a fault or a refusal. -/
def SafeFor : Nat → State → Prop
  | 0, _ => True
  | n + 1, s => ∃ t, step s = .next t ∧ SafeFor n t

end Sys2Proof.Machine
end

