-- ==== Sys2Proof/Certificates/Slice0/Obligations.lean ====
section
/-! DEFINITION. The statements for the provers, one definition each; OBLIGATIONS.json lists them with the rules they
formalise. Register fields stand at the bit positions of 10_state.md sections 3 to 5 (G3 to G9, log 26). -/

open Sys2Proof Sys2Proof.Machine

/-! ### Reset, fetch, decode -/

/-- 70_reset_and_hazards.md section 1, 10_state.md section 10 and D22: the values the spec fixes for reset, its own
choice; that ACRAM is not mapped is the model's choice (log 6). The rest of State.reset (logs 5, 6) is not stated. -/
def Obligations.ResetLeavesLaunchFlagsClear : Prop :=
  State.reset.acModeFlag = false ∧
    State.reset.masks = { init := false, a20m := false, nmi := false, smi := false } ∧
    State.reset.chipset = { processorHold := false, privateOpen := false, locality3Open := false } ∧
    State.reset.snoopHitm = false ∧ State.reset.acram.mapped = false ∧
    ∀ p ∈ State.reset.rlps, p.activity = .waitForSipi

/-- 10_state.md section 2 and log 3: when the bytes at the instruction pointer decode to an instruction, a step of an
executing processor is `exec` of it, with nothing around it (the next instruction pointer is the leaf's own, R199),
whatever breakpoint is set (log 39). -/
def Obligations.StepRunsDecodedInstruction : Prop :=
  ∀ (s : State) (i : Instr) (rest : List Byte),
    Executing s → decode s.in64 s.fetchBytes = .instr i rest → step s = exec i s

/-- Words written out from the encodings of 30_encoding.md and the vectors of 95_test_vectors.md 3.1. -/
def Obligations.SampleWordsDecode : Prop :=
  decodeTableWord 16 0x370F = some (.getsecEnteraccs []) ∧
    decode false [0x0F#8, 0x37#8] = .instr (.getsecEnteraccs []) [] ∧
    decode false [0x2E#8, 0x0F#8, 0x37#8] = .instr (.getsecEnteraccs [.seg .cs]) [] ∧
    decode false [0x67#8, 0x0F#8, 0x37#8] = .instr (.getsecEnteraccs [.addrSize]) [] ∧
    decode true [0x48#8, 0x0F#8, 0x37#8] = .instr (.getsecEnteraccs [.rex 0x8#4]) [] ∧
    decode true [0x64#8, 0x67#8, 0x41#8, 0x0F#8, 0x37#8] =
      .instr (.getsecEnteraccs [.seg .fs, .addrSize, .rex 0x1#4]) [] ∧
    decode false [0xF0#8, 0x0F#8, 0x37#8] = .instr (.getsecEnteraccs [.lock]) [] ∧
    decode false [0xF2#8, 0x0F#8, 0x37#8] = .instr (.getsecEnteraccs [.repne]) [] ∧
    decode false [0xF3#8, 0x0F#8, 0x37#8] = .instr (.getsecEnteraccs [.rep]) [] ∧
    decode false [0x66#8, 0x0F#8, 0x37#8] = .instr (.getsecEnteraccs [.opSize]) [] ∧
    decode false [0x48#8, 0x0F#8, 0x37#8] = .otherOpcode

/-- 30_encoding.md sections 1 and 3: the bytes of a well-formed instruction decode to it, with the bytes after it left
over, every byte before the opcode at every value the encoding admits. -/
def Obligations.DecodeOfEncodeIsTheInstruction : Prop :=
  ∀ (mode64 : Bool) (i : Instr) (rest : List Byte),
    i.wellFormed mode64 = true → decode mode64 (encode i ++ rest) = .instr i rest

/-- 30_encoding.md sections 1, 3 and 4: what decodes is the encoding of a well-formed instruction, so that no byte
sequence has two readings and no bit of it is dropped. -/
def Obligations.DecodedBytesAreTheEncoding : Prop :=
  ∀ (mode64 : Bool) (bytes rest : List Byte) (i : Instr),
    decode mode64 bytes = .instr i rest → i.wellFormed mode64 = true ∧ encode i ++ rest = bytes

/-- 30_encoding.md section 3 (R107's length limit, general knowledge G12; log 14): fourteen or more bytes before `0F`,
a REX byte where it may stand among them, make the instruction longer than 15 bytes, and such a sequence is `#GP(0)` at
decode with nothing else changed. -/
def Obligations.OverlongInstructionRaisesGp : Prop :=
  (∀ (mode64 : Bool) (before : List PrefixByte) (rest : List Byte),
    14 ≤ before.length → rexPlaced mode64 before = true →
      decode mode64 (before.map PrefixByte.toByte ++ 0x0F#8 :: rest) = .tooLong) ∧
  ∀ s : State, Executing s → decode s.in64 s.fetchBytes = .tooLong →
    step s = .next { s with status := .exception (.gp 0#32) }

/-! ### Lines 0 to 8 of R120 -/

/-- 30_encoding.md section 3 and D6: a forbidden byte before the opcode gives `#UD` whatever the state. -/
def Obligations.ForbiddenByteRaisesInvalidOpcode : Prop :=
  ∀ (before : List PrefixByte) (s : State),
    (∃ p ∈ before, p = .lock ∨ p = .repne ∨ p = .rep ∨ p = .opSize) →
      exec (.getsecEnteraccs before) s = .next { s with status := .exception .ud }

/-- R104: a leaf other than ENTERACCS is refused by name. -/
def Obligations.OtherLeafIsRefused : Prop :=
  ∀ (before : List PrefixByte) (s : State),
    (∀ p ∈ before, p ≠ .lock ∧ p ≠ .repne ∧ p ≠ .rep ∧ p ≠ .opSize) → s.gpr.rax.lo ≠ 2#32 →
      exec (.getsecEnteraccs before) s = .refused .otherGetsecLeaf

/-- R122, in every mode and whatever stands before the opcode. -/
def Obligations.SmxeClearRaisesInvalidOpcode : Prop :=
  ∀ (before : List PrefixByte) (s : State),
    s.gpr.rax.lo = 2#32 → s.cr4SMXE = false →
      exec (.getsecEnteraccs before) s = .next { s with status := .exception .ud }

/-- R123: unconditional, so also for an unsupported leaf and at every privilege level. The number of the reason is D4's
parameter `VMEXIT_REASON_GETSEC`, and that the outcome carries it is the model's choice (log 31). -/
def Obligations.VmxNonRootTakesVmExit : Prop :=
  ∀ (before : List PrefixByte) (s : State),
    (∀ p ∈ before, p ≠ .lock ∧ p ≠ .repne ∧ p ≠ .rep ∧ p ≠ .opSize) → s.gpr.rax.lo = 2#32 → s.cr4SMXE = true →
    s.vmx = .nonRoot →
      exec (.getsecEnteraccs before) s = .next { s with status := .vmExit s.cfg.vmexitReasonGetsec }

/-- R124. -/
def Obligations.UnsupportedLeafRaisesInvalidOpcode : Prop :=
  ∀ (before : List PrefixByte) (s : State),
    s.gpr.rax.lo = 2#32 → s.cr4SMXE = true → s.vmx ≠ .nonRoot → s.cfg.enteraccsSupported = false →
      exec (.getsecEnteraccs before) s = .next { s with status := .exception .ud }

/-- R125: each of its eleven conditions gives `#GP(0)`, and nothing else changes. -/
def Obligations.ModeConditionRaisesGp : Prop :=
  ∀ (before : List PrefixByte) (s : State),
    LeafAvailable before s →
    (s.vmx = .root ∨ s.cr0PE = false ∨ s.cr0CD = true ∨ s.cr0NW = true ∨ s.cr0NE = false ∨ 0 < s.cpl ∨
      s.flag .vm = true ∨ s.bsp = false ∨ s.cfg.txtChipsetPresent = false ∨ s.acModeFlag = true ∨ s.inSmm = true) →
      exec (.getsecEnteraccs before) s = .next { s with status := .exception (.gp 0#32) }

/-- 40_enteraccs_checks.md section 3 and D28: a valid uncorrectable error in a bank gives `#GP(0)` when
`MCA_HANDLING` is 0, which it is also when no entry of type 5 exists. -/
def Obligations.UncorrectableErrorRaisesGp : Prop :=
  ∀ (before : List PrefixByte) (s : State) (i : Nat),
    LeafAvailable before s → (s.cfg.mcaHandlingEntry = none ∨ s.cfg.mcaHandlingEntry = some false) →
    i < s.mcBankCount → s.cfg.isUncorrectable (s.mcStatus i) = true →
      exec (.getsecEnteraccs before) s = .next { s with status := .exception (.gp 0#32) }

/-- R128: independent of `MCA_HANDLING`. -/
def Obligations.MachineCheckInProgressRaisesGp : Prop :=
  ∀ (before : List PrefixByte) (s : State),
    LeafAvailable before s → (s.mcip = true ∨ s.ierr = true) →
      exec (.getsecEnteraccs before) s = .next { s with status := .exception (.gp 0#32) }

/-- R129, its clauses (a) to (e), the sum without wrap-around. -/
def Obligations.BaseOrSizeViolationRaisesGp : Prop :=
  ∀ (before : List PrefixByte) (s : State),
    LeafAvailable before s →
    (s.gpr.rbx.lo.toNat % 4096 ≠ 0 ∨ s.gpr.rcx.lo.toNat % 64 ≠ 0 ∨ s.gpr.rcx.lo.toNat < s.cfg.minModuleSize ∨
      s.cfg.acramCapacity < s.gpr.rcx.lo.toNat ∨ 2 ^ 32 - 1 < s.gpr.rbx.lo.toNat + s.gpr.rcx.lo.toNat) →
      exec (.getsecEnteraccs before) s = .next { s with status := .exception (.gp 0#32) }

/-- 40_enteraccs_checks.md section 3 and D27: an enabled processor of the package with `CR0.CD = 1` or not idle in one
of the two states. -/
def Obligations.BusySecondaryRaisesGp : Prop :=
  ∀ (before : List PrefixByte) (s : State) (p : Rlp),
    LeafAvailable before s → p ∈ s.rlps → p.samePackage = true → p.enabled = true →
    (p.cr0CD = true ∨ p.activity ≠ .waitForSipi ∧ p.activity ≠ .senterSleep) →
      exec (.getsecEnteraccs before) s = .next { s with status := .exception (.gp 0#32) }

/-- R216: on `#UD`, `#GP(0)` and the VM exit nothing but the recorded outcome differs from the entry state. -/
def Obligations.RefusedLaunchChangesNothing : Prop :=
  ∀ (i : Instr) (s t : State),
    s.status = .running → exec i s = .next t →
    ((∃ e, t.status = .exception e) ∨ ∃ r, t.status = .vmExit r) →
      t = { s with status := t.status }

/-- R264: on a platform that meets R253 and R254 an execution of the leaf always answers one of the five outcomes of
R11. -/
def Obligations.ExecutionEndsInOneOfFiveOutcomes : Prop :=
  ∀ (before : List PrefixByte) (s : State),
    s.status = .running → s.gpr.rax.lo = 2#32 → PlatformReady s →
      ∃ t, exec (.getsecEnteraccs before) s = .next t ∧
        (t.status = .running ∨ t.status = .exception .ud ∨ t.status = .exception (.gp 0#32) ∨
          (∃ r, t.status = .vmExit r) ∨ ∃ e code, t.status = .txtShutdown e code)

/-! ### Lines 9 to 24 of R120 -/

/-- 41_enteraccs_launch.md section 1 and D12: past the `#GP(0)` checks, bit by bit; the thermal predicate is the
parameter's, at the entry state (log 40). -/
def Obligations.MiscEnableIsInitialised : Prop :=
  ∀ (before : List PrefixByte) (s t : State) (i : Nat),
    ChecksPass before s → exec (.getsecEnteraccs before) s = .next t → i < 64 →
      t.msr.miscEnable.getLsbD i =
        if i = 3 then s.msr.miscEnable.getLsbD 3 || !s.otherThermalMonitor
        else s.msr.miscEnable.getLsbD i && s.cfg.maskConst.getLsbD i

/-- R156: some address of the allocation is not `WB`. -/
def Obligations.NonWriteBackAllocationShutsDown : Prop :=
  ∀ (before : List PrefixByte) (s : State) (a : Nat),
    ChecksPass before s → s.gpr.rbx.lo.toNat ≤ a →
    a < s.gpr.rbx.lo.toNat + 4096 * ((s.gpr.rcx.lo.toNat + 4095) / 4096) → s.memTypeOf a ≠ .wb →
      ∃ t, exec (.getsecEnteraccs before) s = .next t ∧
        t.status = .txtShutdown .badACMMType s.cfg.txtErrorCode.badACMMType

/-- R157, for every free value. -/
def Obligations.UnsupportedModuleShutsDown : Prop :=
  ∀ (d : Draws) (before : List PrefixByte) (s : State),
    ChecksPass before s → AcramWriteBack s →
    ((s.loadedHeader d).version ∉ s.cfg.supportedHeaderVersions ∨ (s.loadedHeader d).moduleType ≠ 2) →
      ∃ t, enteraccs d before s = .next t ∧
        t.status = .txtShutdown .unsupportedACM s.cfg.txtErrorCode.unsupportedACM

/-- 41_enteraccs_launch.md section 3 (R158 to R162) and D15, log 9: a module that is not authentic for the chipset's
key hash, for every free value. -/
def Obligations.UnauthenticModuleShutsDown : Prop :=
  ∀ (d : Draws) (before : List PrefixByte) (s : State),
    ChecksPass before s → AcramWriteBack s → KindAccepted s.cfg (s.loadedHeader d) → ¬ ModuleAuthentic d s →
      ∃ t, enteraccs d before s = .next t ∧
        t.status = .txtShutdown .authenticateFail s.cfg.txtErrorCode.authenticateFail

/-- R163: it precedes every format check (R166). -/
def Obligations.UnexpectedSnoopHitShutsDown : Prop :=
  ∀ (d : Draws) (before : List PrefixByte) (s : State),
    ChecksPass before s → AcramWriteBack s → KindAccepted s.cfg (s.loadedHeader d) → ModuleAuthentic d s →
    (s.finalHeader d).codeControl.testBit 0 = false → (s.finalHeader d).codeControl.testBit 1 = true →
    d.hitm = true →
      ∃ t, enteraccs d before s = .next t ∧
        t.status = .txtShutdown .unexpectedHITM s.cfg.txtErrorCode.unexpectedHITM

/-- R164, R165, R169: reserved control bits, the GDT's placement, the width of its limit; for every free value, where
R163 does not come first. -/
def Obligations.MalformedHeaderShutsDown : Prop :=
  ∀ (d : Draws) (before : List PrefixByte) (s : State) (h : Header),
    h = s.finalHeader d →
    ChecksPass before s → AcramWriteBack s → KindAccepted s.cfg (s.loadedHeader d) → ModuleAuthentic d s →
    ¬ HitmUnexpected h d.hitm →
    (h.codeControl &&& s.cfg.reservedControl ≠ 0 ∨ h.gdtBasePtr < h.headerLen * 4 + h.scratchSize ∨
      s.acSize ≤ h.gdtBasePtr + h.gdtLimit ∨ h.gdtLimit &&& 0xFFFF0000 ≠ 0) →
      ∃ t, enteraccs d before s = .next t ∧
        t.status = .txtShutdown .badACMFormat s.cfg.txtErrorCode.badACMFormat

/-- 41_enteraccs_launch.md section 3, D8, D10, D11 and G8: the selected entry offset outside the module's body, or a
selector out of range (the difference in the integers) or with `TI` or `RPL` set. -/
def Obligations.BadEntryOrSelectorShutsDown : Prop :=
  ∀ (d : Draws) (before : List PrefixByte) (s : State) (h : Header),
    h = s.finalHeader d →
    ChecksPass before s → AcramWriteBack s → KindAccepted s.cfg (s.loadedHeader d) → ModuleAuthentic d s →
    ¬ HitmUnexpected h d.hitm →
    (s.acSize ≤ entryOffset h d.hitm ∨ entryOffset h d.hitm < h.headerLen * 4 + h.scratchSize ∨
      (h.gdtLimit : Int) - 15 < (h.segSel : Int) ∨ h.segSel < 8 ∨ h.segSel.testBit 2 = true ∨ h.segSel % 4 ≠ 0) →
      ∃ t, enteraccs d before s = .next t ∧
        t.status = .txtShutdown .badACMFormat s.cfg.txtErrorCode.badACMFormat

/-- 41_enteraccs_launch.md section 3 (R172, over D8, D10, D11, D15): each name comes from its own rules alone. -/
def Obligations.ShutdownNamesComeFromTheirRules : Prop :=
  ∀ (d : Draws) (before : List PrefixByte) (s t : State) (e : TxtError) (code : Nat),
    s.status = .running → enteraccs d before s = .next t → t.status = .txtShutdown e code →
      (e = .badACMMType → ¬ AcramWriteBack s) ∧
      (e = .unsupportedACM → ¬ KindAccepted s.cfg (s.loadedHeader d)) ∧
      (e = .authenticateFail → ¬ ModuleAuthentic d s) ∧
      (e = .unexpectedHITM → HitmUnexpected (s.finalHeader d) d.hitm) ∧
      (e = .badACMFormat → ¬ HeaderConsistent s.cfg s.acSize d.hitm (s.finalHeader d))

/-- 60_exceptions.md section 2 (R217, over D6) and the order of R120: the first line that fires gives the outcome, for
every free value, on a platform that meets R253 and R254 (log 16). The module's lines are read as D8, D10 and D11
decide. -/
def Obligations.FirstFailingLineDecidesTheOutcome : Prop :=
  ∀ (d : Draws) (before : List PrefixByte) (s : State),
    s.status = .running → s.gpr.rax.lo = 2#32 → PlatformReady s →
      ∃ t, enteraccs d before s = .next t ∧
        ((∃ p ∈ before, p = .lock ∨ p = .repne ∨ p = .rep ∨ p = .opSize) → t.status = .exception .ud) ∧
        (s.cr4SMXE = false → t.status = .exception .ud) ∧
        ((∀ p ∈ before, p ≠ .lock ∧ p ≠ .repne ∧ p ≠ .rep ∧ p ≠ .opSize) → s.cr4SMXE = true → s.vmx = .nonRoot →
          ∃ r, t.status = .vmExit r) ∧
        (s.vmx ≠ .nonRoot → s.cfg.enteraccsSupported = false → t.status = .exception .ud) ∧
        (LeafAvailable before s → ¬ ChecksPass before s → t.status = .exception (.gp 0#32)) ∧
        (ChecksPass before s → ¬ AcramWriteBack s → ∃ code, t.status = .txtShutdown .badACMMType code) ∧
        (ChecksPass before s → AcramWriteBack s → ¬ KindAccepted s.cfg (s.loadedHeader d) →
          ∃ code, t.status = .txtShutdown .unsupportedACM code) ∧
        (ChecksPass before s → AcramWriteBack s → KindAccepted s.cfg (s.loadedHeader d) → ¬ ModuleAuthentic d s →
          ∃ code, t.status = .txtShutdown .authenticateFail code) ∧
        (ChecksPass before s → AcramWriteBack s → KindAccepted s.cfg (s.loadedHeader d) → ModuleAuthentic d s →
          (HitmUnexpected (s.finalHeader d) d.hitm → ∃ code, t.status = .txtShutdown .unexpectedHITM code) ∧
          (¬ HitmUnexpected (s.finalHeader d) d.hitm →
            ¬ HeaderConsistent s.cfg s.acSize d.hitm (s.finalHeader d) →
              ∃ code, t.status = .txtShutdown .badACMFormat code)) ∧
        (ChecksPass before s → ModuleAccepted d s → t.status = .running)

/-- 60_exceptions.md section 1 (R215, D5) and P5 of 95_test_vectors.md: what a TXT shutdown has done, and the registers
it has not written. Of the MSRs that is `IA32_EFER` alone: `IA32_MISC_ENABLE` and `IA32_DEBUGCTL` are written before it
(R151, R152). -/
def Obligations.ShutdownLeavesRegistersAndKeepsMasks : Prop :=
  ∀ (i : Instr) (s t : State) (e : TxtError) (code : Nat),
    s.status = .running → exec i s = .next t → t.status = .txtShutdown e code →
      t.gpr = s.gpr ∧ t.rip = s.rip ∧ t.eflags = s.eflags ∧ t.ctrl = s.ctrl ∧ t.dbg = s.dbg ∧ t.seg = s.seg ∧
      t.gdtr = s.gdtr ∧ t.idtr = s.idtr ∧ t.msr.efer = s.msr.efer ∧
      t.masks = { init := true, a20m := true, nmi := true, smi := true } ∧ t.acModeFlag = true ∧
      t.chipset = { s.chipset with processorHold := true } ∧ code = s.cfg.errorCode e

/-- 70_reset_and_hazards.md section 2 (R253, R254; U12, U17; logs 16, 17): an accepted module on a platform that is not
ready is given no meaning, under the name of the obligation that is violated. -/
def Obligations.UnreadyPlatformIsRefused : Prop :=
  ∀ (before : List PrefixByte) (s : State),
    ChecksPass before s → ModuleAccepted (drawsAt s.draws) s → ¬ PlatformReady s →
      (exec (.getsecEnteraccs before) s = .refused .memTypesOutsideModule ∧
        ∃ a, ¬ (s.gpr.rbx.lo.toNat ≤ a ∧ a < s.gpr.rbx.lo.toNat + 4096 * ((s.gpr.rcx.lo.toNat + 4095) / 4096)) ∧
          s.memTypeOf a ∉ s.cfg.memTypesAllowed) ∨
      (exec (.getsecEnteraccs before) s = .refused .platformNotIdle ∧
        ∃ p ∈ s.rlps, p.samePackage = false ∧ p.activity ≠ .waitForSipi ∧ p.activity ≠ .senterSleep)

/-- R150, R151 (its side effect on the armed range, R45), R152, R153; that the drain completes the stores in order is
R84's derivation and log 19: in every outcome past the `#GP(0)` checks, `Launched` and `TxtShutdown` alike, the masks
are set, the A20M level is de-asserted, `IA32_DEBUGCTL` is 0, the TLBs are empty, the transactions issued before have
completed, no range is armed, the flag of authenticated code execution mode is set and the hold is in force. -/
def Obligations.PreparationHoldsInEveryLaterOutcome : Prop :=
  ∀ (before : List PrefixByte) (s t : State), ChecksPass before s → exec (.getsecEnteraccs before) s = .next t →
    t.masks = { init := true, a20m := true, nmi := true, smi := true } ∧ t.a20m = false ∧ t.msr.debugctl = 0#64 ∧
      t.tlb = [] ∧ t.outgoing = [] ∧ t.mem = Memory.complete s.mem s.outgoing ∧ t.monitor = none ∧
      t.acModeFlag = true ∧ t.chipset.processorHold = true

/-! ### `Launched`: lines 25 to 27 of R120 -/

/-- R182, R183, R184, R185, R193, R195. -/
def Obligations.LaunchInitialisesControlState : Prop :=
  ∀ (before : List PrefixByte) (s : State),
    LaunchReady (drawsAt s.draws) before s →
      ∃ t, exec (.getsecEnteraccs before) s = .next t ∧
        (∀ i, i < 64 → t.ctrl.cr0.getLsbD i =
          (decide (i ≠ 31) && decide (i ≠ 18) && decide (i ≠ 16) && s.ctrl.cr0.getLsbD i)) ∧
        (∀ i, i < 64 → t.ctrl.cr4.getLsbD i = (decide (i ≠ 6) && s.ctrl.cr4.getLsbD i)) ∧
        t.eflags = 0x00000002#32 ∧ t.msr.efer = 0#64 ∧ t.dbg.dr7.lo = 0x00000400#32 ∧ t.msr.debugctl = 0#64

/-- 42_enteraccs_state_init.md section 3 with D19 and D20 (log 28): the saved instruction pointer, GDT limit, `CS`
selector and GDT base, and the module base; and the upper half of `DR7`. Upper halves that carry no 64-bit value are
free and not stated. -/
def Obligations.LaunchSavesTheCallersState : Prop :=
  ∀ (before : List PrefixByte) (s : State),
    LaunchReady (drawsAt s.draws) before s →
      ∃ t, exec (.getsecEnteraccs before) s = .next t ∧
        (s.in64 = true → t.gpr.rbx = s.rip + BitVec.ofNat 64 (2 + before.length)) ∧
        (s.in64 = false → t.gpr.rbx.lo.toNat = (s.rip.lo.toNat + (2 + before.length)) % 2 ^ 32) ∧
        t.gpr.rcx.lo.toNat = s.gdtr.limit.toNat * 2 ^ 16 + s.seg.cs.sel.toNat ∧
        (s.inIa32e = true → t.gpr.rdx = s.gdtr.base) ∧ (s.inIa32e = false → t.gpr.rdx.lo = s.gdtr.base.lo) ∧
        t.gpr.rbp.lo = s.gpr.rbx.lo ∧ t.dbg.dr7.hi = 0#32

/-- R190, R191, R192; that no truncation occurs is R190's own derivation from R129, R165 and R169. -/
def Obligations.LaunchLoadsTableAndSegments : Prop :=
  ∀ (before : List PrefixByte) (s : State) (h : Header),
    h = s.finalHeader (drawsAt s.draws) → LaunchReady (drawsAt s.draws) before s →
      ∃ t, exec (.getsecEnteraccs before) s = .next t ∧
        t.gdtr.base.toNat = s.gpr.rbx.lo.toNat + h.gdtBasePtr ∧ t.gdtr.limit.toNat = h.gdtLimit ∧
        t.seg.cs.sel.toNat = h.segSel ∧ t.seg.cs.base = 0#64 ∧ t.seg.cs.limit = 0xFFFFF#20 ∧ t.seg.cs.g = true ∧
        t.seg.cs.d = true ∧ t.seg.cs.ar = 0x9B#8 ∧
        t.seg.ds.sel.toNat = h.segSel + 8 ∧ t.seg.ds.base = 0#64 ∧ t.seg.ds.limit = 0xFFFFF#20 ∧ t.seg.ds.g = true ∧
        t.seg.ds.d = true ∧ t.seg.ds.ar = 0x93#8

/-- 41_enteraccs_launch.md section 3 (the derived end of R171): the selectors a launch loads are multiples of 8 between
8 and FFF0H, and `DS` is `CS + 8` without overflow; `CS.L` is 0 (D21). -/
def Obligations.LaunchedSelectorsAreProper : Prop :=
  ∀ (before : List PrefixByte) (s : State),
    LaunchReady (drawsAt s.draws) before s →
      ∃ t, exec (.getsecEnteraccs before) s = .next t ∧
        8 ≤ t.seg.cs.sel.toNat ∧ t.seg.cs.sel.toNat ≤ 0xFFF0 ∧ t.seg.cs.sel.toNat % 8 = 0 ∧
        t.seg.ds.sel.toNat = t.seg.cs.sel.toNat + 8 ∧ t.seg.cs.l = false

/-- R167, R199: the module is entered at its base plus the selected offset, inside the module, `RIP[63:32]` being 0,
with `CS` flat, paging off and `CPL` 0, and the next instruction comes from ACRAM; the snoop-HITM indicator is the one
the load has set (R49). -/
def Obligations.LaunchEntersTheModule : Prop :=
  ∀ (before : List PrefixByte) (s : State) (h : Header),
    h = s.finalHeader (drawsAt s.draws) → LaunchReady (drawsAt s.draws) before s →
      ∃ t, exec (.getsecEnteraccs before) s = .next t ∧ t.status = s.status ∧
        t.rip.toNat = s.gpr.rbx.lo.toNat + entryOffset h t.snoopHitm ∧ t.rip.toNat < 2 ^ 32 ∧
        entryOffset h t.snoopHitm < s.gpr.rcx.lo.toNat ∧
        h.headerLen * 4 + h.scratchSize ≤ entryOffset h t.snoopHitm ∧
        t.seg.cs.base = 0#64 ∧ t.cr0PG = false ∧ t.cpl = 0 ∧ t.acram.covers t.rip.toNat = true

/-- R196, R198: no debug trap is pending or enabled, and the chipset's spaces are open; in no other outcome has either
message been sent. -/
def Obligations.LaunchEndsDebugAndOpensChipset : Prop :=
  (∀ (before : List PrefixByte) (s : State),
    LaunchReady (drawsAt s.draws) before s →
      ∃ t, exec (.getsecEnteraccs before) s = .next t ∧
        t.pendingSingleStep = false ∧ t.flag .tf = false ∧ t.dbg.dr7.lo = 0x00000400#32 ∧ t.msr.debugctl = 0#64 ∧
        t.chipset.privateOpen = true ∧ t.chipset.locality3Open = true) ∧
  ∀ (before : List PrefixByte) (s t : State),
    s.status = .running → exec (.getsecEnteraccs before) s = .next t → t.status ≠ .running →
      t.chipset.privateOpen = s.chipset.privateOpen ∧ t.chipset.locality3Open = s.chipset.locality3Open

/-- 42_enteraccs_state_init.md section 7 (R200, D18): what a launch leaves unchanged; the leaf stores to no byte of
memory. -/
def Obligations.LaunchFrame : Prop :=
  ∀ (before : List PrefixByte) (s : State),
    LaunchReady (drawsAt s.draws) before s →
      ∃ t, exec (.getsecEnteraccs before) s = .next t ∧
        (t.gpr.rax = s.gpr.rax ∧ t.gpr.rsp = s.gpr.rsp ∧ t.gpr.rsi = s.gpr.rsi ∧ t.gpr.rdi = s.gpr.rdi ∧
          t.gpr.r8 = s.gpr.r8 ∧ t.gpr.r9 = s.gpr.r9 ∧ t.gpr.r10 = s.gpr.r10 ∧ t.gpr.r11 = s.gpr.r11 ∧
          t.gpr.r12 = s.gpr.r12 ∧ t.gpr.r13 = s.gpr.r13 ∧ t.gpr.r14 = s.gpr.r14 ∧ t.gpr.r15 = s.gpr.r15) ∧
        (t.ctrl.cr2 = s.ctrl.cr2 ∧ t.ctrl.cr3 = s.ctrl.cr3 ∧ t.dbg = { s.dbg with dr7 := t.dbg.dr7 }) ∧
        t.msr = { s.msr with
                  efer := t.msr.efer
                  debugctl := t.msr.debugctl
                  miscEnable := t.msr.miscEnable } ∧
        t.seg = { s.seg with
                  cs := t.seg.cs
                  ds := t.seg.ds } ∧
        (t.idtr = s.idtr ∧ t.memTypes = s.memTypes ∧ t.inSmm = s.inSmm ∧ t.vmx = s.vmx ∧
          t.heldEvents = s.heldEvents ∧ t.activity = s.activity ∧ t.rlps = s.rlps ∧
          t.thermalUnit = s.thermalUnit ∧ t.ierr = s.ierr ∧ t.status = s.status ∧ t.cfg = s.cfg) ∧
        ∀ a, t.memView.read a = s.memView.read a

/-- 20_memory.md section 5 (R77, R78; D13) and R154: the allocation is mapped at the base, as long as it should be, and
holds the module's bytes everywhere but in the scratch area. -/
def Obligations.AcramHoldsTheModule : Prop :=
  ∀ (before : List PrefixByte) (s : State) (h : Header),
    h = s.loadedHeader (drawsAt s.draws) → LaunchReady (drawsAt s.draws) before s →
      ∃ t, exec (.getsecEnteraccs before) s = .next t ∧
        t.acram.mapped = true ∧ t.acram.base = s.gpr.rbx.lo.toNat ∧
        t.acram.bytes.length = 4096 * ((s.gpr.rcx.lo.toNat + 4095) / 4096) ∧
        ∀ o, o < s.gpr.rcx.lo.toNat → ¬ (h.headerLen * 4 ≤ o ∧ o < h.headerLen * 4 + h.scratchSize) →
          t.acram.bytes.getD o 0#8 = s.memView.read (s.gpr.rbx.lo.toNat + o)

/-- R72's byte order over 20_memory.md section 2 and D1: a header field that lies in the module and outside the scratch
area is the little-endian number of the module's bytes in physical memory. -/
def Obligations.HeaderFieldIsLittleEndianInMemory : Prop :=
  ∀ (d : Draws) (s : State) (f : FieldLoc),
    f.off + f.width ≤ s.acSize →
    (f.off + f.width ≤ (s.loadedHeader d).headerLen * 4 ∨
      (s.loadedHeader d).headerLen * 4 + (s.loadedHeader d).scratchSize ≤ f.off) →
      acramField d.pad (s.authenticated d).acram.bytes f =
        littleEndian (s.memView.readBytes (s.acBase + f.off) f.width)

/-- 20_memory.md section 10 (the derived R86): after a launch the bytes the fetch reads at the entry point, up to the
end of the allocation, are ACRAM's. -/
def Obligations.NextFetchIsServedByAcram : Prop :=
  ∀ (before : List PrefixByte) (s t : State) (k : Nat),
    s.status = .running → exec (.getsecEnteraccs before) s = .next t → t.status = .running →
    t.rip.toNat - t.acram.base + k < t.acram.bytes.length →
      t.translate (t.fetchLinear k) = some (t.rip.toNat + k) ∧
        t.ilpRead (t.rip.toNat + k) = t.acram.bytes.getD (t.rip.toNat - t.acram.base + k) 0#8

/-- 42_enteraccs_state_init.md section 7 (the derived R201): the mode the module starts in. -/
def Obligations.ModuleStartsInProtectedMode : Prop :=
  ∀ (before : List PrefixByte) (s t : State),
    s.status = .running → exec (.getsecEnteraccs before) s = .next t → t.status = .running →
      t.mode = .protected32 ∧ t.cr0PG = false ∧ t.cr0NE = true ∧ t.cr0CD = false ∧ t.cr0NW = false ∧ t.cpl = 0 ∧
      t.seg.cs.dpl = 0#2 ∧ t.seg.cs.d = true ∧ t.inSmm = false ∧ t.vmx = .notInVmx ∧ t.acModeFlag = true ∧
      t.cr4SMXE = true

/-- 42_enteraccs_state_init.md section 5 (the derived R197): after a launch the processor responds to no external
signal. -/
def Obligations.NoSignalIsAnsweredAfterLaunch : Prop :=
  ∀ (before : List PrefixByte) (s t : State) (g : Signal),
    s.status = .running → exec (.getsecEnteraccs before) s = .next t → t.status = .running → t.respondsTo g = false

/-- R251, with the bank scan for `MCA_HANDLING = 0` (R127), the module's lines as D8, D10, D11 and D15 decide and the
platform of R253 and R254 (log 16): the leaf reaches `Launched` only when every obligation is met. -/
def Obligations.LaunchedOnlyWhenEveryConditionHolds : Prop :=
  ∀ (before : List PrefixByte) (s t : State),
    s.status = .running → exec (.getsecEnteraccs before) s = .next t → t.status = .running →
      LaunchReady (drawsAt s.draws) before s

/-- 60_exceptions.md sections 3 and 6 (R219, R225; P4 of 95_test_vectors.md; log 20): launched code that launches again
gets `#GP(0)` with nothing changed, and the model refuses to go on from there, the IDT not being reloaded. -/
def Obligations.SecondLaunchRaisesGpAndStops : Prop :=
  ∀ (before again : List PrefixByte) (s t : State),
    s.status = .running → exec (.getsecEnteraccs before) s = .next t → t.status = .running →
    (∀ p ∈ again, p ≠ .lock ∧ p ≠ .repne ∧ p ≠ .rep ∧ p ≠ .opSize) →
      exec (.getsecEnteraccs again) t = .next { t with status := .exception (.gp 0#32) } ∧
        step { t with status := .exception (.gp 0#32) } = .refused (.exceptionBeforeNewIdt (.gp 0#32))

/-! ### The whole machine -/

/-- 60_exceptions.md sections 1 and 3, D3 to D5 (logs 3, 20): what a step answers after an exception, a VM exit or a
TXT shutdown; it is never a next state. -/
def Obligations.EndedExecutionTakesNoStep : Prop :=
  ∀ s : State,
    (∀ e, s.status = .exception e → s.idtStale = false → step s = .fault (.exceptionDelivery e)) ∧
    (∀ e, s.status = .exception e → s.idtStale = true → step s = .refused (.exceptionBeforeNewIdt e)) ∧
    (∀ r, s.status = .vmExit r → step s = .fault .vmExitDelivery) ∧
    ∀ e code, s.status = .txtShutdown e code → step s = .fault (.txtReset e)

/-- R53, and what R21, R30 to R34, R38, R41, R42, R48 and R50 call read and not written: no step writes the
parameters, `OTHER_THERMAL_MONITOR_ENABLED` among them with the unit it is a predicate on (log 40), `RAX`, the other
processors, the MTRRs, `IDTR`, `IA32_APIC_BASE`, `IA32_MCG_CAP`, `IA32_MCG_STATUS`, the banks, `IN_SMM`, the VMX state
or `IERR`. -/
def Obligations.ParametersAndInputsAreNeverWritten : Prop :=
  ∀ (s t : State), step s = .next t →
    t.cfg = s.cfg ∧ t.cfg.otherThermalMonitorEnabled = s.cfg.otherThermalMonitorEnabled ∧
      t.thermalUnit = s.thermalUnit ∧ t.gpr.rax = s.gpr.rax ∧ t.rlps = s.rlps ∧ t.memTypes = s.memTypes ∧
      t.idtr = s.idtr ∧ t.msr.apicBase = s.msr.apicBase ∧ t.msr.mcgCap = s.msr.mcgCap ∧
      t.msr.mcgStatus = s.msr.mcgStatus ∧ t.msr.mcStatus = s.msr.mcStatus ∧ t.inSmm = s.inSmm ∧ t.vmx = s.vmx ∧
      t.ierr = s.ierr

/-- 20_memory.md sections 3 and 10 (R52, R73; D23): no step stores to physical memory; it only completes stores issued
before. -/
def Obligations.StepStoresNothing : Prop :=
  ∀ (s t : State) (a : Nat), step s = .next t → t.memView.read a = s.memView.read a

/-- Log 4 over R52: the canonical form of memory is kept by every step. -/
def Obligations.StepKeepsMemoryCanonical : Prop :=
  ∀ (s t : State), MemCanonical s → step s = .next t → MemCanonical t

/-- R225 and 41_enteraccs_launch.md section 1: in authenticated code execution mode the masks, the hold and the A20M
level are as the leaf sets them, and the chipset's spaces are open only in it. The clause on the stale-IDT mark is the
model's: the mark is its own flag (log 20). -/
def Obligations.StepKeepsAcModeInvariant : Prop :=
  ∀ (s t : State), AcModeInv s → step s = .next t → AcModeInv t

/-- 60_exceptions.md section 6 and 40_enteraccs_checks.md section 3: in authenticated code execution mode no step
changes anything but the recorded outcome, so the mode is never left by an instruction in scope. -/
def Obligations.AuthenticatedModeStepChangesNothing : Prop :=
  ∀ (s t : State), s.acModeFlag = true → step s = .next t →
    t = { s with status := t.status } ∧
      (t.status = .exception .ud ∨ t.status = .exception (.gp 0#32) ∨ ∃ r, t.status = .vmExit r)

/-- 20_memory.md section 5: ACRAM stays mapped in whole blocks on a block boundary. -/
def Obligations.StepKeepsAcramGeometry : Prop :=
  ∀ (s t : State), AcramGeometry s → step s = .next t → AcramGeometry t

/-- The three invariants at reset, the model's clause on the stale-IDT mark (log 20) among them. -/
def Obligations.ResetMeetsTheInvariants : Prop :=
  MemCanonical State.reset ∧ AcModeInv State.reset ∧ AcramGeometry State.reset

/-- 42_enteraccs_state_init.md section 6 and D15: the chipset's private space is opened only by the launch of an
authentic module, executed at `CPL` 0 outside SMM and VMX operation. -/
def Obligations.OnlyAuthenticLaunchOpensPrivateSpace : Prop :=
  ∀ (s t : State), step s = .next t → s.chipset.privateOpen = false → t.chipset.privateOpen = true →
    ModuleAuthentic (drawsAt s.draws) s ∧ AcramWriteBack s ∧ s.cpl = 0 ∧ s.inSmm = false ∧ s.vmx = .notInVmx ∧
      t.status = .running ∧ t.acModeFlag = true ∧ t.acram.base ≤ t.rip.toNat ∧
      t.rip.toNat < t.acram.base + t.acram.bytes.length

/-- 20_memory.md section 1 and D7: with other upper halves of `RAX`, `RBX`, `RCX` at entry, and all else the same, the
outcome is the same and so is what it leaves, those three registers apart: `RAX` is as it was given, and `RBX` and `RCX`
are those of the other run after a launch and as they were given otherwise. -/
def Obligations.UpperHalvesOfInputsAreIgnored : Prop :=
  ∀ (before : List PrefixByte) (s s' : State) (a b c : Word),
    a.lo = s.gpr.rax.lo → b.lo = s.gpr.rbx.lo → c.lo = s.gpr.rcx.lo →
    s' = { s with gpr := { s.gpr with
                           rax := a
                           rbx := b
                           rcx := c } } →
      (∀ t, exec (.getsecEnteraccs before) s = .next t →
        ∃ g, exec (.getsecEnteraccs before) s' = .next { t with gpr := g } ∧
          g = { t.gpr with
                rax := a
                rbx := g.rbx
                rcx := g.rcx } ∧
          (s.status = .running → t.status = .running → g.rbx = t.gpr.rbx ∧ g.rcx = t.gpr.rcx) ∧
          (s.status = .running → t.status ≠ .running → g.rbx = b ∧ g.rcx = c)) ∧
      ∀ r, exec (.getsecEnteraccs before) s = .refused r → exec (.getsecEnteraccs before) s' = .refused r

/-- 92_eei_decisions.md D13, D16, D19 (log 7): every free value of an execution is Config's, at the state's draw: the
snoop-HITM indicator, the scratch area, the pad, and the upper halves that carry no 64-bit value. A statement about them
is one about every value, since Config's constants have no body. -/
def Obligations.FreeValuesComeFromTheDraw : Prop :=
  (∀ (before : List PrefixByte) (s t : State), ChecksPass before s → exec (.getsecEnteraccs before) s = .next t →
    t.snoopHitm = Config.freeHitm s.draws ∧ t.draws = s.draws + 1) ∧
  ∀ (before : List PrefixByte) (s : State) (h : Header),
    h = s.loadedHeader (drawsAt s.draws) → LaunchReady (drawsAt s.draws) before s →
      ∃ t, exec (.getsecEnteraccs before) s = .next t ∧
        (∀ o, o < t.acram.bytes.length →
          (h.headerLen * 4 ≤ o ∧ o < h.headerLen * 4 + h.scratchSize →
            t.acram.bytes.getD o 0#8 = Config.freeScratch s.draws o) ∧
          (¬ (h.headerLen * 4 ≤ o ∧ o < h.headerLen * 4 + h.scratchSize) → s.gpr.rcx.lo.toNat ≤ o →
            t.acram.bytes.getD o 0#8 = Config.freePad s.draws o)) ∧
        (s.in64 = false → t.gpr.rbx.hi = Config.freeRbxHi s.draws) ∧ t.gpr.rcx.hi = Config.freeRcxHi s.draws ∧
        (s.inIa32e = false → t.gpr.rdx.hi = Config.freeRdxHi s.draws) ∧ t.gpr.rbp.hi = Config.freeRbpHi s.draws

/-! ### Memory, other agents, external signals -/

/-- 20_memory.md section 10 and D23 (log 19): memory as the load of a module sees it holds, at every address, the
newest of the processor's own stores still under way, else what it held; so does memory after the drain, and ACRAM takes
the module from there. -/
def Obligations.LoadSeesTheProcessorsOwnStores : Prop :=
  ∀ s : State, MemCanonical s →
    (∀ a, s.memView.read a = (newestStore a s.outgoing).getD (Memory.read s.mem a) ∧
      Memory.read s.prepare.mem a = (newestStore a s.outgoing).getD (Memory.read s.mem a)) ∧
    ∀ (d : Draws) (o : Nat), o < s.acSize →
      (s.loaded d).acram.bytes.getD o 0#8 =
        (newestStore (s.acBase + o) s.outgoing).getD (Memory.read s.mem (s.acBase + o))

/-- R80 and log 23 (what `agentAccess` is, and that without the hold it lets every access through): under the hold every
access of another agent but an implicit write-back is blocked; without it none is; no step of the ILP lifts it; and no
agent's access changes ACRAM (R154, R78). -/
def Obligations.HoldBlocksOtherAgents : Prop :=
  (∀ (s : State) (a : Nat) (v : Byte) (p : BitVec 16) (w : Half), s.chipset.processorHold = true →
    agentAccess (.read a) s = none ∧ agentAccess (.write a v) s = none ∧ agentAccess (.io p w) s = none ∧
      ∃ t, agentAccess (.implicitWriteBack a v) s = some t) ∧
  (∀ (s : State) (x : AgentAccess), s.chipset.processorHold = false → ∃ t, agentAccess x s = some t) ∧
  (∀ s t : State, s.chipset.processorHold = true → step s = .next t → t.chipset.processorHold = true) ∧
  ∀ (s t : State) (x : AgentAccess), agentAccess x s = some t → t.acram = s.acram

/-- 10_state.md section 7 (R43, D30; log 22): an assertion of a masked pin changes nothing but the held assertions, and
holds it only where the implementation latches it. -/
def Obligations.MaskedPinIsNotAnswered : Prop :=
  ∀ (s : State) (p : Pin), pinBit s.masks p = true →
    ∃ t, assertPin p s = .next t ∧ t = { s with heldEvents := t.heldEvents } ∧
      (pinBit s.cfg.maskedEventLatched p = false → t = s) ∧
      (pinBit s.cfg.maskedEventLatched p = true → pinBit t.heldEvents p = true)
end

