-- ==== Sys2Proof/Laws/Memory.lean ====
section
/-! SUPPORT. Memory and byte strings: read after write, the canonical form, tables, and where the bytes of a loaded
module come from. -/

namespace Sys2Proof.Machine

/-! ### The canonical form (R52) -/

/-- The canonical form of a list with a first entry. -/
theorem Memory.wf_cons {a : Nat} {v : Byte} {r : Memory} :
    Memory.wf ((a, v) :: r) = true ↔ v ≠ unlistedByte ∧ Memory.above a r = true ∧ Memory.wf r = true := by
  simp [Memory.wf, and_assoc]

theorem Memory.above_mono {a b : Nat} (h : a < b) : ∀ {m : Memory}, Memory.above b m = true → Memory.above a m = true
  | [], _ => rfl
  | (c, _) :: _, hb => by
    simp only [Memory.above, decide_eq_true_eq] at hb ⊢
    omega

/-- Below its first entry a canonical memory lists nothing. -/
theorem Memory.read_of_above {a : Nat} :
    ∀ {m : Memory}, Memory.wf m = true → Memory.above a m = true → Memory.read m a = unlistedByte
  | [], _, _ => rfl
  | (b, v) :: r, hw, ha => by
    have hab : a < b := by simpa [Memory.above] using ha
    have h := Memory.wf_cons.mp hw
    rw [Memory.read, if_neg (by omega)]
    exact Memory.read_of_above h.2.2 (Memory.above_mono hab h.2.1)

theorem Memory.above_write {a b : Nat} {v : Byte} (hab : a < b) :
    ∀ {m : Memory}, Memory.wf m = true → Memory.above a m = true → Memory.above a (Memory.write m b v) = true
  | [], _, _ => by
    unfold Memory.write
    split <;> simp [Memory.above, hab]
  | (c, u) :: r, hw, hm => by
    have hac : a < c := by simpa [Memory.above] using hm
    have h := Memory.wf_cons.mp hw
    unfold Memory.write
    split
    · split <;> simp [Memory.above, hac, hab]
    · split
      · split
        · exact Memory.above_mono hac h.2.1
        · simp [Memory.above, hab]
      · simp [Memory.above, hac]

/-- A write keeps the canonical form. -/
theorem Memory.wf_write (a : Nat) (v : Byte) :
    ∀ {m : Memory}, Memory.wf m = true → Memory.wf (Memory.write m a v) = true
  | [], _ => by
    unfold Memory.write
    split
    · rfl
    · simp_all [Memory.wf, Memory.above]
  | (c, u) :: r, hw => by
    have h := Memory.wf_cons.mp hw
    unfold Memory.write
    split
    · split
      · exact hw
      · rename_i hac hv
        exact Memory.wf_cons.mpr ⟨hv, by simpa [Memory.above] using hac, hw⟩
    · split
      · split
        · exact h.2.2
        · rename_i hac hv
          exact Memory.wf_cons.mpr ⟨hv, by rw [hac]; exact h.2.1, h.2.2⟩
      · rename_i h1 h2
        exact Memory.wf_cons.mpr ⟨h.1, Memory.above_write (by omega) h.2.2 h.2.1, Memory.wf_write a v h.2.2⟩

/-- Read after write on a canonical memory. -/
theorem Memory.read_write (a b : Nat) (v : Byte) :
    ∀ {m : Memory}, Memory.wf m = true →
      Memory.read (Memory.write m a v) b = if b = a then v else Memory.read m b
  | [], _ => by
    unfold Memory.write
    split
    · split <;> simp_all [Memory.read]
    · simp only [Memory.read]
      split <;> split <;> simp_all
  | (c, u) :: r, hw => by
    have h := Memory.wf_cons.mp hw
    have ih := Memory.read_write a b v h.2.2
    unfold Memory.write
    split
    · rename_i hac
      split
      · rename_i hv
        split
        · rename_i hb
          rw [hb, hv]
          exact Memory.read_of_above hw (by simpa [Memory.above] using hac)
        · rfl
      · rw [Memory.read]
        by_cases hb : b = a
        · simp [hb]
        · rw [if_neg (fun h => hb h.symm), if_neg hb]
    · split
      · rename_i _ hac
        split
        · rename_i hv
          by_cases hb : b = a
          · rw [if_pos hb, hb, hv, hac]
            exact Memory.read_of_above h.2.2 h.2.1
          · rw [if_neg hb, Memory.read, if_neg (by omega)]
        · by_cases hb : b = a
          · rw [if_pos hb, Memory.read, if_pos hb.symm]
          · rw [if_neg hb, Memory.read, Memory.read, if_neg (fun h => hb h.symm), if_neg (by omega)]
      · rename_i h1 h2
        rw [Memory.read, Memory.read, ih]
        by_cases hb : b = a
        · simp only [if_pos hb]
          rw [if_neg (by omega)]
        · simp only [if_neg hb]

/-- Completing outgoing transactions keeps the canonical form (R84). -/
theorem Memory.wf_complete :
    ∀ (q : List Outgoing) {m : Memory}, Memory.wf m = true → Memory.wf (Memory.complete m q) = true
  | [], _, h => h
  | .store a v :: q, _, h => Memory.wf_complete q (Memory.wf_write a v h)
  | .io _ _ :: q, _, h => Memory.wf_complete q h

/-! ### Byte strings read from memory (R74) -/

@[simp] theorem Memory.length_readBytes (m : Memory) :
    ∀ (n a : Nat), (m.readBytes a n).length = n
  | 0, _ => rfl
  | n + 1, a => by simp [Memory.readBytes, Memory.length_readBytes m n (a + 1)]

/-- Byte `o` of the bytes read from `a` on is the byte at `a + o`. -/
theorem Memory.getD_readBytes (m : Memory) (x : Byte) :
    ∀ (n a o : Nat), o < n → (m.readBytes a n).getD o x = m.read (a + o)
  | 0, _, o, h => absurd h (Nat.not_lt_zero o)
  | n + 1, a, 0, _ => by simp [Memory.readBytes]
  | n + 1, a, o + 1, h => by
    have ih := Memory.getD_readBytes m x n (a + 1) o (by omega)
    rw [show a + (o + 1) = a + 1 + o by omega, ← ih]
    simp [Memory.readBytes]

@[simp] theorem length_padBytes (pad : Nat → Byte) : ∀ (n o : Nat), (padBytes pad o n).length = n
  | 0, _ => rfl
  | n + 1, o => by simp [padBytes, length_padBytes pad n (o + 1)]

/-- The allocation is no smaller than the module (R77). -/
theorem le_acramAlloc (n : Nat) : n ≤ acramAlloc n := by
  unfold acramAlloc
  omega

/-- ACRAM holds `ACRAM_ALLOC` bytes after the load (R77). -/
@[simp] theorem length_loadedBytes (pad : Nat → Byte) (m : Memory) (a n : Nat) :
    (loadedBytes pad m a n).length = acramAlloc n := by
  have := le_acramAlloc n
  simp only [loadedBytes, List.length_append, Memory.length_readBytes, length_padBytes]
  omega

/-- The module's own bytes of a loaded ACRAM are the ones read from memory (R154). -/
theorem take_loadedBytes (pad : Nat → Byte) (m : Memory) (a n : Nat) :
    (loadedBytes pad m a n).take n = m.readBytes a n := by
  rw [loadedBytes, List.take_append_of_le_length (by simp), List.take_of_length_le (by simp)]

/-- Below `ACSIZE`, ACRAM holds after the load what memory holds (R154). -/
theorem getD_loadedBytes (pad : Nat → Byte) (m : Memory) (a n o : Nat) (x : Byte) (h : o < n) :
    (loadedBytes pad m a n).getD o x = m.read (a + o) := by
  rw [← Memory.getD_readBytes m x n a o h, loadedBytes, List.getD_eq_getElem?_getD, List.getD_eq_getElem?_getD,
    List.getElem?_append_left (by simpa using h)]

/-- Byte `k` of a pad from offset `o` on. -/
theorem getD_padBytes (pad : Nat → Byte) (x : Byte) :
    ∀ (n o k : Nat), k < n → (padBytes pad o n).getD k x = pad (o + k)
  | 0, _, _, h => absurd h (Nat.not_lt_zero _)
  | _ + 1, _, 0, _ => rfl
  | n + 1, o, k + 1, h => by
    rw [padBytes, List.getD_cons_succ, getD_padBytes pad x n (o + 1) k (Nat.lt_of_succ_lt_succ h), Nat.add_assoc,
      Nat.add_comm 1 k]

/-- Past the module ACRAM holds the pad (R77, D13). -/
theorem getD_loadedBytes_pad (pad : Nat → Byte) (m : Memory) (a n o : Nat) (x : Byte) (h : n ≤ o)
    (ho : o < acramAlloc n) : (loadedBytes pad m a n).getD o x = pad o := by
  have hl : (m.readBytes a n).length ≤ o := by rwa [Memory.length_readBytes]
  rw [loadedBytes, List.getD_eq_getElem?_getD, List.getElem?_append_right hl, ← List.getD_eq_getElem?_getD,
    Memory.length_readBytes, getD_padBytes _ _ _ _ _ (by omega), Nat.add_sub_cancel' h]

@[simp] theorem length_mapOffsets (f : Nat → Byte → Byte) :
    ∀ (l : List Byte) (o : Nat), (mapOffsets f o l).length = l.length
  | [], _ => rfl
  | _ :: l, o => by simp [mapOffsets, length_mapOffsets f l (o + 1)]

/-- Byte `k` of a string changed at every offset. -/
theorem getD_mapOffsets (f : Nat → Byte → Byte) (x : Byte) :
    ∀ (l : List Byte) (o k : Nat), k < l.length → (mapOffsets f o l).getD k x = f (o + k) (l.getD k x)
  | [], _, k, h => absurd h (Nat.not_lt_zero k)
  | b :: l, o, 0, _ => by simp [mapOffsets]
  | b :: l, o, k + 1, h => by
    have ih := getD_mapOffsets f x l (o + 1) k (by simpa using h)
    rw [show o + (k + 1) = o + 1 + k by omega]
    simpa [mapOffsets] using ih

/-! ### Tables (log 2) and memory types (R34) -/

/-- A looked-up value is the default when no entry has the argument. -/
theorem Table.lookup_eq_default {α β : Type} [DecidableEq α] {x : α} {d : β} :
    ∀ {g : List (α × β)}, (∀ e ∈ g, e.1 ≠ x) → Table.lookup x g d = d
  | [], _ => rfl
  | (a, v) :: r, h => by
    rw [Table.lookup, if_neg (h (a, v) (by simp)), Table.lookup_eq_default fun e he => h e (by simp [he])]

/-- Some page lies above every page a table lists. -/
theorem exists_page_above {β : Type} : ∀ (g : List (Nat × β)) (n : Nat), ∃ p, n ≤ p ∧ ∀ e ∈ g, e.1 < p
  | [], n => ⟨n, Nat.le_refl n, by simp⟩
  | (a, v) :: r, n => by
    obtain ⟨p, hp, hr⟩ := exists_page_above r (max n (a + 1))
    refine ⟨p, by omega, fun e he => ?_⟩
    rcases List.mem_cons.mp he with rfl | he
    · show a < p
      omega
    · exact hr e he

/-- Pages `p .. p+n-1` are all `WB`. -/
theorem pagesAreWb_iff (t : MemTypes) :
    ∀ (n p : Nat), pagesAreWb t p n = true ↔ ∀ q, p ≤ q → q < p + n → t.ofPage q = .wb
  | 0, p => by
    simp only [pagesAreWb, Nat.add_zero, true_iff]
    omega
  | n + 1, p => by
    have ih := pagesAreWb_iff t n (p + 1)
    simp only [pagesAreWb, Bool.and_eq_true, beq_iff_eq, ih]
    constructor
    · rintro ⟨h1, h2⟩ q hp hq
      rcases Nat.eq_or_lt_of_le hp with rfl | hp
      · exact h1
      · exact h2 q hp (by omega)
    · intro h
      exact ⟨h p (Nat.le_refl p) (by omega), fun q hp hq => h q (by omega) (by omega)⟩

end Sys2Proof.Machine
end

