-- ==== Sys2Proof/Laws/State.lean ====
section
/-! SUPPORT. What each update of the state leaves in each field, by unfolding: later proofs cite these and unfold no
record update. -/

namespace Sys2Proof.Machine

/-! ### `takeException`: R216 -/

@[simp] theorem State.takeException_gpr (e : Exc) (s : State) : (s.takeException e).gpr = s.gpr := rfl
@[simp] theorem State.takeException_rip (e : Exc) (s : State) : (s.takeException e).rip = s.rip := rfl
@[simp] theorem State.takeException_eflags (e : Exc) (s : State) : (s.takeException e).eflags = s.eflags := rfl
@[simp] theorem State.takeException_ctrl (e : Exc) (s : State) : (s.takeException e).ctrl = s.ctrl := rfl
@[simp] theorem State.takeException_dbg (e : Exc) (s : State) : (s.takeException e).dbg = s.dbg := rfl
@[simp] theorem State.takeException_msr (e : Exc) (s : State) : (s.takeException e).msr = s.msr := rfl
@[simp] theorem State.takeException_memTypes (e : Exc) (s : State) : (s.takeException e).memTypes = s.memTypes := rfl
@[simp] theorem State.takeException_seg (e : Exc) (s : State) : (s.takeException e).seg = s.seg := rfl
@[simp] theorem State.takeException_gdtr (e : Exc) (s : State) : (s.takeException e).gdtr = s.gdtr := rfl
@[simp] theorem State.takeException_idtr (e : Exc) (s : State) : (s.takeException e).idtr = s.idtr := rfl
@[simp] theorem State.takeException_acModeFlag (e : Exc) (s : State) :
    (s.takeException e).acModeFlag = s.acModeFlag := rfl
@[simp] theorem State.takeException_inSmm (e : Exc) (s : State) : (s.takeException e).inSmm = s.inSmm := rfl
@[simp] theorem State.takeException_vmx (e : Exc) (s : State) : (s.takeException e).vmx = s.vmx := rfl
@[simp] theorem State.takeException_masks (e : Exc) (s : State) : (s.takeException e).masks = s.masks := rfl
@[simp] theorem State.takeException_heldEvents (e : Exc) (s : State) :
    (s.takeException e).heldEvents = s.heldEvents := rfl
@[simp] theorem State.takeException_a20m (e : Exc) (s : State) : (s.takeException e).a20m = s.a20m := rfl
@[simp] theorem State.takeException_pendingSingleStep (e : Exc) (s : State) :
    (s.takeException e).pendingSingleStep = s.pendingSingleStep := rfl
@[simp] theorem State.takeException_monitor (e : Exc) (s : State) : (s.takeException e).monitor = s.monitor := rfl
@[simp] theorem State.takeException_tlb (e : Exc) (s : State) : (s.takeException e).tlb = s.tlb := rfl
@[simp] theorem State.takeException_outgoing (e : Exc) (s : State) : (s.takeException e).outgoing = s.outgoing := rfl
@[simp] theorem State.takeException_acram (e : Exc) (s : State) : (s.takeException e).acram = s.acram := rfl
@[simp] theorem State.takeException_activity (e : Exc) (s : State) : (s.takeException e).activity = s.activity := rfl
@[simp] theorem State.takeException_rlps (e : Exc) (s : State) : (s.takeException e).rlps = s.rlps := rfl
@[simp] theorem State.takeException_snoopHitm (e : Exc) (s : State) :
    (s.takeException e).snoopHitm = s.snoopHitm := rfl
@[simp] theorem State.takeException_thermalUnit (e : Exc) (s : State) :
    (s.takeException e).thermalUnit = s.thermalUnit := rfl
@[simp] theorem State.takeException_ierr (e : Exc) (s : State) : (s.takeException e).ierr = s.ierr := rfl
@[simp] theorem State.takeException_chipset (e : Exc) (s : State) : (s.takeException e).chipset = s.chipset := rfl
@[simp] theorem State.takeException_mem (e : Exc) (s : State) : (s.takeException e).mem = s.mem := rfl
@[simp] theorem State.takeException_status (e : Exc) (s : State) : (s.takeException e).status = .exception e := rfl
@[simp] theorem State.takeException_idtStale (e : Exc) (s : State) : (s.takeException e).idtStale = s.idtStale := rfl
@[simp] theorem State.takeException_draws (e : Exc) (s : State) : (s.takeException e).draws = s.draws := rfl
@[simp] theorem State.takeException_cfg (e : Exc) (s : State) : (s.takeException e).cfg = s.cfg := rfl

/-! ### `takeVmExit`: R214 -/

@[simp] theorem State.takeVmExit_gpr (s : State) : s.takeVmExit.gpr = s.gpr := rfl
@[simp] theorem State.takeVmExit_rip (s : State) : s.takeVmExit.rip = s.rip := rfl
@[simp] theorem State.takeVmExit_eflags (s : State) : s.takeVmExit.eflags = s.eflags := rfl
@[simp] theorem State.takeVmExit_ctrl (s : State) : s.takeVmExit.ctrl = s.ctrl := rfl
@[simp] theorem State.takeVmExit_dbg (s : State) : s.takeVmExit.dbg = s.dbg := rfl
@[simp] theorem State.takeVmExit_msr (s : State) : s.takeVmExit.msr = s.msr := rfl
@[simp] theorem State.takeVmExit_memTypes (s : State) : s.takeVmExit.memTypes = s.memTypes := rfl
@[simp] theorem State.takeVmExit_seg (s : State) : s.takeVmExit.seg = s.seg := rfl
@[simp] theorem State.takeVmExit_gdtr (s : State) : s.takeVmExit.gdtr = s.gdtr := rfl
@[simp] theorem State.takeVmExit_idtr (s : State) : s.takeVmExit.idtr = s.idtr := rfl
@[simp] theorem State.takeVmExit_acModeFlag (s : State) : s.takeVmExit.acModeFlag = s.acModeFlag := rfl
@[simp] theorem State.takeVmExit_inSmm (s : State) : s.takeVmExit.inSmm = s.inSmm := rfl
@[simp] theorem State.takeVmExit_vmx (s : State) : s.takeVmExit.vmx = s.vmx := rfl
@[simp] theorem State.takeVmExit_masks (s : State) : s.takeVmExit.masks = s.masks := rfl
@[simp] theorem State.takeVmExit_heldEvents (s : State) : s.takeVmExit.heldEvents = s.heldEvents := rfl
@[simp] theorem State.takeVmExit_a20m (s : State) : s.takeVmExit.a20m = s.a20m := rfl
@[simp] theorem State.takeVmExit_pendingSingleStep (s : State) :
    s.takeVmExit.pendingSingleStep = s.pendingSingleStep := rfl
@[simp] theorem State.takeVmExit_monitor (s : State) : s.takeVmExit.monitor = s.monitor := rfl
@[simp] theorem State.takeVmExit_tlb (s : State) : s.takeVmExit.tlb = s.tlb := rfl
@[simp] theorem State.takeVmExit_outgoing (s : State) : s.takeVmExit.outgoing = s.outgoing := rfl
@[simp] theorem State.takeVmExit_acram (s : State) : s.takeVmExit.acram = s.acram := rfl
@[simp] theorem State.takeVmExit_activity (s : State) : s.takeVmExit.activity = s.activity := rfl
@[simp] theorem State.takeVmExit_rlps (s : State) : s.takeVmExit.rlps = s.rlps := rfl
@[simp] theorem State.takeVmExit_snoopHitm (s : State) : s.takeVmExit.snoopHitm = s.snoopHitm := rfl
@[simp] theorem State.takeVmExit_thermalUnit (s : State) : s.takeVmExit.thermalUnit = s.thermalUnit := rfl
@[simp] theorem State.takeVmExit_ierr (s : State) : s.takeVmExit.ierr = s.ierr := rfl
@[simp] theorem State.takeVmExit_chipset (s : State) : s.takeVmExit.chipset = s.chipset := rfl
@[simp] theorem State.takeVmExit_mem (s : State) : s.takeVmExit.mem = s.mem := rfl
@[simp] theorem State.takeVmExit_status (s : State) : s.takeVmExit.status = .vmExit s.cfg.vmexitReasonGetsec := rfl
@[simp] theorem State.takeVmExit_idtStale (s : State) : s.takeVmExit.idtStale = s.idtStale := rfl
@[simp] theorem State.takeVmExit_draws (s : State) : s.takeVmExit.draws = s.draws := rfl
@[simp] theorem State.takeVmExit_cfg (s : State) : s.takeVmExit.cfg = s.cfg := rfl

/-! ### `txtShutdown`: R215 -/

@[simp] theorem State.txtShutdown_gpr (e : TxtError) (s : State) : (s.txtShutdown e).gpr = s.gpr := rfl
@[simp] theorem State.txtShutdown_rip (e : TxtError) (s : State) : (s.txtShutdown e).rip = s.rip := rfl
@[simp] theorem State.txtShutdown_eflags (e : TxtError) (s : State) : (s.txtShutdown e).eflags = s.eflags := rfl
@[simp] theorem State.txtShutdown_ctrl (e : TxtError) (s : State) : (s.txtShutdown e).ctrl = s.ctrl := rfl
@[simp] theorem State.txtShutdown_dbg (e : TxtError) (s : State) : (s.txtShutdown e).dbg = s.dbg := rfl
@[simp] theorem State.txtShutdown_msr (e : TxtError) (s : State) : (s.txtShutdown e).msr = s.msr := rfl
@[simp] theorem State.txtShutdown_memTypes (e : TxtError) (s : State) : (s.txtShutdown e).memTypes = s.memTypes := rfl
@[simp] theorem State.txtShutdown_seg (e : TxtError) (s : State) : (s.txtShutdown e).seg = s.seg := rfl
@[simp] theorem State.txtShutdown_gdtr (e : TxtError) (s : State) : (s.txtShutdown e).gdtr = s.gdtr := rfl
@[simp] theorem State.txtShutdown_idtr (e : TxtError) (s : State) : (s.txtShutdown e).idtr = s.idtr := rfl
@[simp] theorem State.txtShutdown_acModeFlag (e : TxtError) (s : State) :
    (s.txtShutdown e).acModeFlag = s.acModeFlag := rfl
@[simp] theorem State.txtShutdown_inSmm (e : TxtError) (s : State) : (s.txtShutdown e).inSmm = s.inSmm := rfl
@[simp] theorem State.txtShutdown_vmx (e : TxtError) (s : State) : (s.txtShutdown e).vmx = s.vmx := rfl
@[simp] theorem State.txtShutdown_masks (e : TxtError) (s : State) : (s.txtShutdown e).masks = s.masks := rfl
@[simp] theorem State.txtShutdown_heldEvents (e : TxtError) (s : State) :
    (s.txtShutdown e).heldEvents = s.heldEvents := rfl
@[simp] theorem State.txtShutdown_a20m (e : TxtError) (s : State) : (s.txtShutdown e).a20m = s.a20m := rfl
@[simp] theorem State.txtShutdown_pendingSingleStep (e : TxtError) (s : State) :
    (s.txtShutdown e).pendingSingleStep = s.pendingSingleStep := rfl
@[simp] theorem State.txtShutdown_monitor (e : TxtError) (s : State) : (s.txtShutdown e).monitor = s.monitor := rfl
@[simp] theorem State.txtShutdown_tlb (e : TxtError) (s : State) : (s.txtShutdown e).tlb = s.tlb := rfl
@[simp] theorem State.txtShutdown_outgoing (e : TxtError) (s : State) : (s.txtShutdown e).outgoing = s.outgoing := rfl
@[simp] theorem State.txtShutdown_acram (e : TxtError) (s : State) : (s.txtShutdown e).acram = s.acram := rfl
@[simp] theorem State.txtShutdown_activity (e : TxtError) (s : State) : (s.txtShutdown e).activity = s.activity := rfl
@[simp] theorem State.txtShutdown_rlps (e : TxtError) (s : State) : (s.txtShutdown e).rlps = s.rlps := rfl
@[simp] theorem State.txtShutdown_snoopHitm (e : TxtError) (s : State) :
    (s.txtShutdown e).snoopHitm = s.snoopHitm := rfl
@[simp] theorem State.txtShutdown_thermalUnit (e : TxtError) (s : State) :
    (s.txtShutdown e).thermalUnit = s.thermalUnit := rfl
@[simp] theorem State.txtShutdown_ierr (e : TxtError) (s : State) : (s.txtShutdown e).ierr = s.ierr := rfl
@[simp] theorem State.txtShutdown_chipset (e : TxtError) (s : State) : (s.txtShutdown e).chipset = s.chipset := rfl
@[simp] theorem State.txtShutdown_mem (e : TxtError) (s : State) : (s.txtShutdown e).mem = s.mem := rfl
@[simp] theorem State.txtShutdown_status (e : TxtError) (s : State) :
    (s.txtShutdown e).status = .txtShutdown e (s.cfg.errorCode e) := rfl
@[simp] theorem State.txtShutdown_idtStale (e : TxtError) (s : State) : (s.txtShutdown e).idtStale = s.idtStale := rfl
@[simp] theorem State.txtShutdown_draws (e : TxtError) (s : State) : (s.txtShutdown e).draws = s.draws := rfl
@[simp] theorem State.txtShutdown_cfg (e : TxtError) (s : State) : (s.txtShutdown e).cfg = s.cfg := rfl

/-! ### `prepare`: R150 to R153 -/

@[simp] theorem State.prepare_gpr (s : State) : s.prepare.gpr = s.gpr := rfl
@[simp] theorem State.prepare_rip (s : State) : s.prepare.rip = s.rip := rfl
@[simp] theorem State.prepare_eflags (s : State) : s.prepare.eflags = s.eflags := rfl
@[simp] theorem State.prepare_ctrl (s : State) : s.prepare.ctrl = s.ctrl := rfl
@[simp] theorem State.prepare_dbg (s : State) : s.prepare.dbg = s.dbg := rfl
@[simp] theorem State.prepare_msr (s : State) : s.prepare.msr = preparedMsrs s := rfl
@[simp] theorem State.prepare_memTypes (s : State) : s.prepare.memTypes = s.memTypes := rfl
@[simp] theorem State.prepare_seg (s : State) : s.prepare.seg = s.seg := rfl
@[simp] theorem State.prepare_gdtr (s : State) : s.prepare.gdtr = s.gdtr := rfl
@[simp] theorem State.prepare_idtr (s : State) : s.prepare.idtr = s.idtr := rfl
@[simp] theorem State.prepare_acModeFlag (s : State) : s.prepare.acModeFlag = true := rfl
@[simp] theorem State.prepare_inSmm (s : State) : s.prepare.inSmm = s.inSmm := rfl
@[simp] theorem State.prepare_vmx (s : State) : s.prepare.vmx = s.vmx := rfl
@[simp] theorem State.prepare_masks (s : State) : s.prepare.masks = allPins := rfl
@[simp] theorem State.prepare_heldEvents (s : State) : s.prepare.heldEvents = s.heldEvents := rfl
@[simp] theorem State.prepare_a20m (s : State) : s.prepare.a20m = false := rfl
@[simp] theorem State.prepare_pendingSingleStep (s : State) : s.prepare.pendingSingleStep = s.pendingSingleStep := rfl
@[simp] theorem State.prepare_monitor (s : State) : s.prepare.monitor = none := rfl
@[simp] theorem State.prepare_tlb (s : State) : s.prepare.tlb = [] := rfl
@[simp] theorem State.prepare_outgoing (s : State) : s.prepare.outgoing = [] := rfl
@[simp] theorem State.prepare_acram (s : State) : s.prepare.acram = s.acram := rfl
@[simp] theorem State.prepare_activity (s : State) : s.prepare.activity = s.activity := rfl
@[simp] theorem State.prepare_rlps (s : State) : s.prepare.rlps = s.rlps := rfl
@[simp] theorem State.prepare_snoopHitm (s : State) : s.prepare.snoopHitm = s.snoopHitm := rfl
@[simp] theorem State.prepare_thermalUnit (s : State) : s.prepare.thermalUnit = s.thermalUnit := rfl
@[simp] theorem State.prepare_ierr (s : State) : s.prepare.ierr = s.ierr := rfl
@[simp] theorem State.prepare_chipset (s : State) :
    s.prepare.chipset = { s.chipset with processorHold := true } := rfl
@[simp] theorem State.prepare_mem (s : State) : s.prepare.mem = s.memView := rfl
@[simp] theorem State.prepare_status (s : State) : s.prepare.status = s.status := rfl
@[simp] theorem State.prepare_idtStale (s : State) : s.prepare.idtStale = s.idtStale := rfl
@[simp] theorem State.prepare_draws (s : State) : s.prepare.draws = s.draws := rfl
@[simp] theorem State.prepare_cfg (s : State) : s.prepare.cfg = s.cfg := rfl

/-! ### `loaded`: R154 -/

@[simp] theorem State.loaded_gpr (d : Draws) (s : State) : (s.loaded d).gpr = s.gpr := rfl
@[simp] theorem State.loaded_rip (d : Draws) (s : State) : (s.loaded d).rip = s.rip := rfl
@[simp] theorem State.loaded_eflags (d : Draws) (s : State) : (s.loaded d).eflags = s.eflags := rfl
@[simp] theorem State.loaded_ctrl (d : Draws) (s : State) : (s.loaded d).ctrl = s.ctrl := rfl
@[simp] theorem State.loaded_dbg (d : Draws) (s : State) : (s.loaded d).dbg = s.dbg := rfl
@[simp] theorem State.loaded_msr (d : Draws) (s : State) : (s.loaded d).msr = preparedMsrs s := rfl
@[simp] theorem State.loaded_memTypes (d : Draws) (s : State) : (s.loaded d).memTypes = s.memTypes := rfl
@[simp] theorem State.loaded_seg (d : Draws) (s : State) : (s.loaded d).seg = s.seg := rfl
@[simp] theorem State.loaded_gdtr (d : Draws) (s : State) : (s.loaded d).gdtr = s.gdtr := rfl
@[simp] theorem State.loaded_idtr (d : Draws) (s : State) : (s.loaded d).idtr = s.idtr := rfl
@[simp] theorem State.loaded_acModeFlag (d : Draws) (s : State) : (s.loaded d).acModeFlag = true := rfl
@[simp] theorem State.loaded_inSmm (d : Draws) (s : State) : (s.loaded d).inSmm = s.inSmm := rfl
@[simp] theorem State.loaded_vmx (d : Draws) (s : State) : (s.loaded d).vmx = s.vmx := rfl
@[simp] theorem State.loaded_masks (d : Draws) (s : State) : (s.loaded d).masks = allPins := rfl
@[simp] theorem State.loaded_heldEvents (d : Draws) (s : State) : (s.loaded d).heldEvents = s.heldEvents := rfl
@[simp] theorem State.loaded_a20m (d : Draws) (s : State) : (s.loaded d).a20m = false := rfl
@[simp] theorem State.loaded_pendingSingleStep (d : Draws) (s : State) :
    (s.loaded d).pendingSingleStep = s.pendingSingleStep := rfl
@[simp] theorem State.loaded_monitor (d : Draws) (s : State) : (s.loaded d).monitor = none := rfl
@[simp] theorem State.loaded_tlb (d : Draws) (s : State) : (s.loaded d).tlb = [] := rfl
@[simp] theorem State.loaded_outgoing (d : Draws) (s : State) : (s.loaded d).outgoing = [] := rfl
@[simp] theorem State.loaded_acram (d : Draws) (s : State) :
    (s.loaded d).acram = ⟨true, s.acBase, loadedBytes d.pad s.memView s.acBase s.acSize⟩ := rfl
@[simp] theorem State.loaded_activity (d : Draws) (s : State) : (s.loaded d).activity = s.activity := rfl
@[simp] theorem State.loaded_rlps (d : Draws) (s : State) : (s.loaded d).rlps = s.rlps := rfl
@[simp] theorem State.loaded_snoopHitm (d : Draws) (s : State) : (s.loaded d).snoopHitm = d.hitm := rfl
@[simp] theorem State.loaded_thermalUnit (d : Draws) (s : State) : (s.loaded d).thermalUnit = s.thermalUnit := rfl
@[simp] theorem State.loaded_ierr (d : Draws) (s : State) : (s.loaded d).ierr = s.ierr := rfl
@[simp] theorem State.loaded_chipset (d : Draws) (s : State) :
    (s.loaded d).chipset = { s.chipset with processorHold := true } := rfl
@[simp] theorem State.loaded_mem (d : Draws) (s : State) : (s.loaded d).mem = s.memView := rfl
@[simp] theorem State.loaded_status (d : Draws) (s : State) : (s.loaded d).status = s.status := rfl
@[simp] theorem State.loaded_idtStale (d : Draws) (s : State) : (s.loaded d).idtStale = s.idtStale := rfl
@[simp] theorem State.loaded_draws (d : Draws) (s : State) : (s.loaded d).draws = s.draws + 1 := rfl
@[simp] theorem State.loaded_cfg (d : Draws) (s : State) : (s.loaded d).cfg = s.cfg := rfl

/-! ### `overwriteScratch`: R161, R162 -/

@[simp] theorem State.overwriteScratch_gpr (d : Draws) (s : State) : (s.overwriteScratch d).gpr = s.gpr := rfl
@[simp] theorem State.overwriteScratch_rip (d : Draws) (s : State) : (s.overwriteScratch d).rip = s.rip := rfl
@[simp] theorem State.overwriteScratch_eflags (d : Draws) (s : State) :
    (s.overwriteScratch d).eflags = s.eflags := rfl
@[simp] theorem State.overwriteScratch_ctrl (d : Draws) (s : State) : (s.overwriteScratch d).ctrl = s.ctrl := rfl
@[simp] theorem State.overwriteScratch_dbg (d : Draws) (s : State) : (s.overwriteScratch d).dbg = s.dbg := rfl
@[simp] theorem State.overwriteScratch_msr (d : Draws) (s : State) : (s.overwriteScratch d).msr = s.msr := rfl
@[simp] theorem State.overwriteScratch_memTypes (d : Draws) (s : State) :
    (s.overwriteScratch d).memTypes = s.memTypes := rfl
@[simp] theorem State.overwriteScratch_seg (d : Draws) (s : State) : (s.overwriteScratch d).seg = s.seg := rfl
@[simp] theorem State.overwriteScratch_gdtr (d : Draws) (s : State) : (s.overwriteScratch d).gdtr = s.gdtr := rfl
@[simp] theorem State.overwriteScratch_idtr (d : Draws) (s : State) : (s.overwriteScratch d).idtr = s.idtr := rfl
@[simp] theorem State.overwriteScratch_acModeFlag (d : Draws) (s : State) :
    (s.overwriteScratch d).acModeFlag = s.acModeFlag := rfl
@[simp] theorem State.overwriteScratch_inSmm (d : Draws) (s : State) : (s.overwriteScratch d).inSmm = s.inSmm := rfl
@[simp] theorem State.overwriteScratch_vmx (d : Draws) (s : State) : (s.overwriteScratch d).vmx = s.vmx := rfl
@[simp] theorem State.overwriteScratch_masks (d : Draws) (s : State) : (s.overwriteScratch d).masks = s.masks := rfl
@[simp] theorem State.overwriteScratch_heldEvents (d : Draws) (s : State) :
    (s.overwriteScratch d).heldEvents = s.heldEvents := rfl
@[simp] theorem State.overwriteScratch_a20m (d : Draws) (s : State) : (s.overwriteScratch d).a20m = s.a20m := rfl
@[simp] theorem State.overwriteScratch_pendingSingleStep (d : Draws) (s : State) :
    (s.overwriteScratch d).pendingSingleStep = s.pendingSingleStep := rfl
@[simp] theorem State.overwriteScratch_monitor (d : Draws) (s : State) :
    (s.overwriteScratch d).monitor = s.monitor := rfl
@[simp] theorem State.overwriteScratch_tlb (d : Draws) (s : State) : (s.overwriteScratch d).tlb = s.tlb := rfl
@[simp] theorem State.overwriteScratch_outgoing (d : Draws) (s : State) :
    (s.overwriteScratch d).outgoing = s.outgoing := rfl
@[simp] theorem State.overwriteScratch_acram (d : Draws) (s : State) :
    (s.overwriteScratch d).acram = { s.acram with
      bytes := mapOffsets
        (fun o b => if (s.header d).scratchStart ≤ o ∧ o < (s.header d).bodyStart then d.scratch o else b)
        0 s.acram.bytes } := rfl
@[simp] theorem State.overwriteScratch_activity (d : Draws) (s : State) :
    (s.overwriteScratch d).activity = s.activity := rfl
@[simp] theorem State.overwriteScratch_rlps (d : Draws) (s : State) : (s.overwriteScratch d).rlps = s.rlps := rfl
@[simp] theorem State.overwriteScratch_snoopHitm (d : Draws) (s : State) :
    (s.overwriteScratch d).snoopHitm = s.snoopHitm := rfl
@[simp] theorem State.overwriteScratch_thermalUnit (d : Draws) (s : State) :
    (s.overwriteScratch d).thermalUnit = s.thermalUnit := rfl
@[simp] theorem State.overwriteScratch_ierr (d : Draws) (s : State) : (s.overwriteScratch d).ierr = s.ierr := rfl
@[simp] theorem State.overwriteScratch_chipset (d : Draws) (s : State) :
    (s.overwriteScratch d).chipset = s.chipset := rfl
@[simp] theorem State.overwriteScratch_mem (d : Draws) (s : State) : (s.overwriteScratch d).mem = s.mem := rfl
@[simp] theorem State.overwriteScratch_status (d : Draws) (s : State) :
    (s.overwriteScratch d).status = s.status := rfl
@[simp] theorem State.overwriteScratch_idtStale (d : Draws) (s : State) :
    (s.overwriteScratch d).idtStale = s.idtStale := rfl
@[simp] theorem State.overwriteScratch_draws (d : Draws) (s : State) : (s.overwriteScratch d).draws = s.draws := rfl
@[simp] theorem State.overwriteScratch_cfg (d : Draws) (s : State) : (s.overwriteScratch d).cfg = s.cfg := rfl

/-! ### `authenticated`: R161, R162 -/

@[simp] theorem State.authenticated_gpr (d : Draws) (s : State) :
    (s.authenticated d).gpr = s.gpr :=
  (State.overwriteScratch_gpr d (s.loaded d)).trans (State.loaded_gpr d s)
@[simp] theorem State.authenticated_rip (d : Draws) (s : State) :
    (s.authenticated d).rip = s.rip :=
  (State.overwriteScratch_rip d (s.loaded d)).trans (State.loaded_rip d s)
@[simp] theorem State.authenticated_eflags (d : Draws) (s : State) :
    (s.authenticated d).eflags = s.eflags :=
  (State.overwriteScratch_eflags d (s.loaded d)).trans (State.loaded_eflags d s)
@[simp] theorem State.authenticated_ctrl (d : Draws) (s : State) :
    (s.authenticated d).ctrl = s.ctrl :=
  (State.overwriteScratch_ctrl d (s.loaded d)).trans (State.loaded_ctrl d s)
@[simp] theorem State.authenticated_dbg (d : Draws) (s : State) :
    (s.authenticated d).dbg = s.dbg :=
  (State.overwriteScratch_dbg d (s.loaded d)).trans (State.loaded_dbg d s)
@[simp] theorem State.authenticated_msr (d : Draws) (s : State) :
    (s.authenticated d).msr = preparedMsrs s :=
  (State.overwriteScratch_msr d (s.loaded d)).trans (State.loaded_msr d s)
@[simp] theorem State.authenticated_memTypes (d : Draws) (s : State) :
    (s.authenticated d).memTypes = s.memTypes :=
  (State.overwriteScratch_memTypes d (s.loaded d)).trans (State.loaded_memTypes d s)
@[simp] theorem State.authenticated_seg (d : Draws) (s : State) :
    (s.authenticated d).seg = s.seg :=
  (State.overwriteScratch_seg d (s.loaded d)).trans (State.loaded_seg d s)
@[simp] theorem State.authenticated_gdtr (d : Draws) (s : State) :
    (s.authenticated d).gdtr = s.gdtr :=
  (State.overwriteScratch_gdtr d (s.loaded d)).trans (State.loaded_gdtr d s)
@[simp] theorem State.authenticated_idtr (d : Draws) (s : State) :
    (s.authenticated d).idtr = s.idtr :=
  (State.overwriteScratch_idtr d (s.loaded d)).trans (State.loaded_idtr d s)
@[simp] theorem State.authenticated_acModeFlag (d : Draws) (s : State) :
    (s.authenticated d).acModeFlag = true :=
  (State.overwriteScratch_acModeFlag d (s.loaded d)).trans (State.loaded_acModeFlag d s)
@[simp] theorem State.authenticated_inSmm (d : Draws) (s : State) :
    (s.authenticated d).inSmm = s.inSmm :=
  (State.overwriteScratch_inSmm d (s.loaded d)).trans (State.loaded_inSmm d s)
@[simp] theorem State.authenticated_vmx (d : Draws) (s : State) :
    (s.authenticated d).vmx = s.vmx :=
  (State.overwriteScratch_vmx d (s.loaded d)).trans (State.loaded_vmx d s)
@[simp] theorem State.authenticated_masks (d : Draws) (s : State) :
    (s.authenticated d).masks = allPins :=
  (State.overwriteScratch_masks d (s.loaded d)).trans (State.loaded_masks d s)
@[simp] theorem State.authenticated_heldEvents (d : Draws) (s : State) :
    (s.authenticated d).heldEvents = s.heldEvents :=
  (State.overwriteScratch_heldEvents d (s.loaded d)).trans (State.loaded_heldEvents d s)
@[simp] theorem State.authenticated_a20m (d : Draws) (s : State) :
    (s.authenticated d).a20m = false :=
  (State.overwriteScratch_a20m d (s.loaded d)).trans (State.loaded_a20m d s)
@[simp] theorem State.authenticated_pendingSingleStep (d : Draws) (s : State) :
    (s.authenticated d).pendingSingleStep = s.pendingSingleStep :=
  (State.overwriteScratch_pendingSingleStep d (s.loaded d)).trans (State.loaded_pendingSingleStep d s)
@[simp] theorem State.authenticated_monitor (d : Draws) (s : State) :
    (s.authenticated d).monitor = none :=
  (State.overwriteScratch_monitor d (s.loaded d)).trans (State.loaded_monitor d s)
@[simp] theorem State.authenticated_tlb (d : Draws) (s : State) :
    (s.authenticated d).tlb = [] :=
  (State.overwriteScratch_tlb d (s.loaded d)).trans (State.loaded_tlb d s)
@[simp] theorem State.authenticated_outgoing (d : Draws) (s : State) :
    (s.authenticated d).outgoing = [] :=
  (State.overwriteScratch_outgoing d (s.loaded d)).trans (State.loaded_outgoing d s)
@[simp] theorem State.authenticated_acram (d : Draws) (s : State) :
    (s.authenticated d).acram = ⟨true, s.acBase, s.finalBytes d⟩ :=
  State.overwriteScratch_acram d (s.loaded d)
@[simp] theorem State.authenticated_activity (d : Draws) (s : State) :
    (s.authenticated d).activity = s.activity :=
  (State.overwriteScratch_activity d (s.loaded d)).trans (State.loaded_activity d s)
@[simp] theorem State.authenticated_rlps (d : Draws) (s : State) :
    (s.authenticated d).rlps = s.rlps :=
  (State.overwriteScratch_rlps d (s.loaded d)).trans (State.loaded_rlps d s)
@[simp] theorem State.authenticated_snoopHitm (d : Draws) (s : State) :
    (s.authenticated d).snoopHitm = d.hitm :=
  (State.overwriteScratch_snoopHitm d (s.loaded d)).trans (State.loaded_snoopHitm d s)
@[simp] theorem State.authenticated_thermalUnit (d : Draws) (s : State) :
    (s.authenticated d).thermalUnit = s.thermalUnit :=
  (State.overwriteScratch_thermalUnit d (s.loaded d)).trans (State.loaded_thermalUnit d s)
@[simp] theorem State.authenticated_ierr (d : Draws) (s : State) :
    (s.authenticated d).ierr = s.ierr :=
  (State.overwriteScratch_ierr d (s.loaded d)).trans (State.loaded_ierr d s)
@[simp] theorem State.authenticated_chipset (d : Draws) (s : State) :
    (s.authenticated d).chipset = { s.chipset with processorHold := true } :=
  (State.overwriteScratch_chipset d (s.loaded d)).trans (State.loaded_chipset d s)
@[simp] theorem State.authenticated_mem (d : Draws) (s : State) :
    (s.authenticated d).mem = s.memView :=
  (State.overwriteScratch_mem d (s.loaded d)).trans (State.loaded_mem d s)
@[simp] theorem State.authenticated_status (d : Draws) (s : State) :
    (s.authenticated d).status = s.status :=
  (State.overwriteScratch_status d (s.loaded d)).trans (State.loaded_status d s)
@[simp] theorem State.authenticated_idtStale (d : Draws) (s : State) :
    (s.authenticated d).idtStale = s.idtStale :=
  (State.overwriteScratch_idtStale d (s.loaded d)).trans (State.loaded_idtStale d s)
@[simp] theorem State.authenticated_draws (d : Draws) (s : State) :
    (s.authenticated d).draws = s.draws + 1 :=
  (State.overwriteScratch_draws d (s.loaded d)).trans (State.loaded_draws d s)
@[simp] theorem State.authenticated_cfg (d : Draws) (s : State) :
    (s.authenticated d).cfg = s.cfg :=
  (State.overwriteScratch_cfg d (s.loaded d)).trans (State.loaded_cfg d s)

/-! ### What the leaf reads before it writes (R181) -/

/-- The mode is a function of `CR0`, `EFLAGS`, `IA32_EFER` and `CS` (R39). -/
theorem State.mode_congr {s t : State} (h1 : s.ctrl = t.ctrl) (h2 : s.eflags = t.eflags)
    (h3 : s.msr.efer = t.msr.efer) (h4 : s.seg = t.seg) : s.mode = t.mode := by
  unfold State.mode State.cr0PE State.flag State.eferLMA
  rw [h1, h2, h3, h4]
theorem State.authenticated_mode (d : Draws) (s : State) : (s.authenticated d).mode = s.mode :=
  State.mode_congr rfl rfl rfl rfl
@[simp] theorem State.authenticated_in64 (d : Draws) (s : State) : (s.authenticated d).in64 = s.in64 := by
  simp only [State.in64, State.authenticated_mode]
@[simp] theorem State.authenticated_inIa32e (d : Draws) (s : State) :
    (s.authenticated d).inIa32e = s.inIa32e := by
  simp only [State.inIa32e, State.authenticated_mode]
theorem savedIp_authenticated (hi : Half) (len : Nat) (d : Draws) (s : State) :
    savedIp hi len (s.authenticated d) = savedIp hi len s := by simp [savedIp]
theorem savedLimitCs_authenticated (hi : Half) (d : Draws) (s : State) :
    savedLimitCs hi (s.authenticated d) = savedLimitCs hi s := by simp [savedLimitCs]
theorem savedGdtBase_authenticated (hi : Half) (d : Draws) (s : State) :
    savedGdtBase hi (s.authenticated d) = savedGdtBase hi s := by simp [savedGdtBase]

/-! ### `complete`: R182 to R199 -/

@[simp] theorem State.complete_gpr (d : Draws) (len : Nat) (h : Header) (s : State) :
    (s.complete d len h).gpr = launchGprs d len s := rfl
@[simp] theorem State.complete_rip (d : Draws) (len : Nat) (h : Header) (s : State) :
    (s.complete d len h).rip = launchRip s.acBase (h.entryOff s.snoopHitm) := rfl
@[simp] theorem State.complete_eflags (d : Draws) (len : Nat) (h : Header) (s : State) :
    (s.complete d len h).eflags = launchFlags := rfl
@[simp] theorem State.complete_ctrl (d : Draws) (len : Nat) (h : Header) (s : State) :
    (s.complete d len h).ctrl = launchCtrl s.ctrl := rfl
@[simp] theorem State.complete_dbg (d : Draws) (len : Nat) (h : Header) (s : State) :
    (s.complete d len h).dbg = { s.dbg with dr7 := launchDr7 } := rfl
@[simp] theorem State.complete_msr (d : Draws) (len : Nat) (h : Header) (s : State) :
    (s.complete d len h).msr = launchMsrs s.msr := rfl
@[simp] theorem State.complete_memTypes (d : Draws) (len : Nat) (h : Header) (s : State) :
    (s.complete d len h).memTypes = s.memTypes := rfl
@[simp] theorem State.complete_seg (d : Draws) (len : Nat) (h : Header) (s : State) :
    (s.complete d len h).seg = { s.seg with cs := launchCs h.segSel, ds := launchDs h.segSel } := rfl
@[simp] theorem State.complete_gdtr (d : Draws) (len : Nat) (h : Header) (s : State) :
    (s.complete d len h).gdtr = launchGdtr s.acBase h := rfl
@[simp] theorem State.complete_idtr (d : Draws) (len : Nat) (h : Header) (s : State) :
    (s.complete d len h).idtr = s.idtr := rfl
@[simp] theorem State.complete_acModeFlag (d : Draws) (len : Nat) (h : Header) (s : State) :
    (s.complete d len h).acModeFlag = s.acModeFlag := rfl
@[simp] theorem State.complete_inSmm (d : Draws) (len : Nat) (h : Header) (s : State) :
    (s.complete d len h).inSmm = s.inSmm := rfl
@[simp] theorem State.complete_vmx (d : Draws) (len : Nat) (h : Header) (s : State) :
    (s.complete d len h).vmx = s.vmx := rfl
@[simp] theorem State.complete_masks (d : Draws) (len : Nat) (h : Header) (s : State) :
    (s.complete d len h).masks = s.masks := rfl
@[simp] theorem State.complete_heldEvents (d : Draws) (len : Nat) (h : Header) (s : State) :
    (s.complete d len h).heldEvents = s.heldEvents := rfl
@[simp] theorem State.complete_a20m (d : Draws) (len : Nat) (h : Header) (s : State) :
    (s.complete d len h).a20m = s.a20m := rfl
@[simp] theorem State.complete_pendingSingleStep (d : Draws) (len : Nat) (h : Header) (s : State) :
    (s.complete d len h).pendingSingleStep = false := rfl
@[simp] theorem State.complete_monitor (d : Draws) (len : Nat) (h : Header) (s : State) :
    (s.complete d len h).monitor = s.monitor := rfl
@[simp] theorem State.complete_tlb (d : Draws) (len : Nat) (h : Header) (s : State) :
    (s.complete d len h).tlb = s.tlb := rfl
@[simp] theorem State.complete_outgoing (d : Draws) (len : Nat) (h : Header) (s : State) :
    (s.complete d len h).outgoing = s.outgoing := rfl
@[simp] theorem State.complete_acram (d : Draws) (len : Nat) (h : Header) (s : State) :
    (s.complete d len h).acram = s.acram := rfl
@[simp] theorem State.complete_activity (d : Draws) (len : Nat) (h : Header) (s : State) :
    (s.complete d len h).activity = s.activity := rfl
@[simp] theorem State.complete_rlps (d : Draws) (len : Nat) (h : Header) (s : State) :
    (s.complete d len h).rlps = s.rlps := rfl
@[simp] theorem State.complete_snoopHitm (d : Draws) (len : Nat) (h : Header) (s : State) :
    (s.complete d len h).snoopHitm = s.snoopHitm := rfl
@[simp] theorem State.complete_thermalUnit (d : Draws) (len : Nat) (h : Header) (s : State) :
    (s.complete d len h).thermalUnit = s.thermalUnit := rfl
@[simp] theorem State.complete_ierr (d : Draws) (len : Nat) (h : Header) (s : State) :
    (s.complete d len h).ierr = s.ierr := rfl
@[simp] theorem State.complete_chipset (d : Draws) (len : Nat) (h : Header) (s : State) :
    (s.complete d len h).chipset = { s.chipset with privateOpen := true, locality3Open := true } := rfl
@[simp] theorem State.complete_mem (d : Draws) (len : Nat) (h : Header) (s : State) :
    (s.complete d len h).mem = s.mem := rfl
@[simp] theorem State.complete_status (d : Draws) (len : Nat) (h : Header) (s : State) :
    (s.complete d len h).status = s.status := rfl
@[simp] theorem State.complete_idtStale (d : Draws) (len : Nat) (h : Header) (s : State) :
    (s.complete d len h).idtStale = true := rfl
@[simp] theorem State.complete_draws (d : Draws) (len : Nat) (h : Header) (s : State) :
    (s.complete d len h).draws = s.draws := rfl
@[simp] theorem State.complete_cfg (d : Draws) (len : Nat) (h : Header) (s : State) :
    (s.complete d len h).cfg = s.cfg := rfl

/-! ### `launched`: R182 to R199 -/

@[simp] theorem State.launched_gpr (d : Draws) (len : Nat) (s : State) :
    (s.launched d len).gpr = launchGprs d len s := by
  rw [State.launched, State.complete_gpr]
  simp only [launchGprs, savedIp_authenticated, savedLimitCs_authenticated, savedGdtBase_authenticated,
    State.authenticated_gpr]
@[simp] theorem State.launched_rip (d : Draws) (len : Nat) (s : State) :
    (s.launched d len).rip = launchRip s.acBase ((s.finalHeader d).entryOff d.hitm) := by
  rw [State.launched, State.complete_rip, State.finalHeader, State.acBase, State.authenticated_gpr, State.acBase,
    State.authenticated_snoopHitm]
@[simp] theorem State.launched_eflags (d : Draws) (len : Nat) (s : State) :
    (s.launched d len).eflags = launchFlags :=
  State.complete_eflags d len _ (s.authenticated d)
@[simp] theorem State.launched_ctrl (d : Draws) (len : Nat) (s : State) :
    (s.launched d len).ctrl = launchCtrl s.ctrl := by
  rw [State.launched, State.complete_ctrl, State.authenticated_ctrl]
@[simp] theorem State.launched_dbg (d : Draws) (len : Nat) (s : State) :
    (s.launched d len).dbg = { s.dbg with dr7 := launchDr7 } := by
  rw [State.launched, State.complete_dbg, State.authenticated_dbg]
@[simp] theorem State.launched_msr (d : Draws) (len : Nat) (s : State) :
    (s.launched d len).msr = launchMsrs (preparedMsrs s) := by
  rw [State.launched, State.complete_msr, State.authenticated_msr]
@[simp] theorem State.launched_memTypes (d : Draws) (len : Nat) (s : State) :
    (s.launched d len).memTypes = s.memTypes :=
  (State.complete_memTypes d len _ (s.authenticated d)).trans (State.authenticated_memTypes d s)
@[simp] theorem State.launched_seg (d : Draws) (len : Nat) (s : State) :
    (s.launched d len).seg = { s.seg with
      cs := launchCs (s.finalHeader d).segSel
      ds := launchDs (s.finalHeader d).segSel } := by
  rw [State.launched, State.complete_seg, State.authenticated_seg, State.finalHeader]
@[simp] theorem State.launched_gdtr (d : Draws) (len : Nat) (s : State) :
    (s.launched d len).gdtr = launchGdtr s.acBase (s.finalHeader d) := by
  rw [State.launched, State.complete_gdtr, State.finalHeader, State.acBase, State.authenticated_gpr, State.acBase]
@[simp] theorem State.launched_idtr (d : Draws) (len : Nat) (s : State) :
    (s.launched d len).idtr = s.idtr :=
  (State.complete_idtr d len _ (s.authenticated d)).trans (State.authenticated_idtr d s)
@[simp] theorem State.launched_acModeFlag (d : Draws) (len : Nat) (s : State) :
    (s.launched d len).acModeFlag = true :=
  (State.complete_acModeFlag d len _ (s.authenticated d)).trans (State.authenticated_acModeFlag d s)
@[simp] theorem State.launched_inSmm (d : Draws) (len : Nat) (s : State) :
    (s.launched d len).inSmm = s.inSmm :=
  (State.complete_inSmm d len _ (s.authenticated d)).trans (State.authenticated_inSmm d s)
@[simp] theorem State.launched_vmx (d : Draws) (len : Nat) (s : State) :
    (s.launched d len).vmx = s.vmx :=
  (State.complete_vmx d len _ (s.authenticated d)).trans (State.authenticated_vmx d s)
@[simp] theorem State.launched_masks (d : Draws) (len : Nat) (s : State) :
    (s.launched d len).masks = allPins :=
  (State.complete_masks d len _ (s.authenticated d)).trans (State.authenticated_masks d s)
@[simp] theorem State.launched_heldEvents (d : Draws) (len : Nat) (s : State) :
    (s.launched d len).heldEvents = s.heldEvents :=
  (State.complete_heldEvents d len _ (s.authenticated d)).trans (State.authenticated_heldEvents d s)
@[simp] theorem State.launched_a20m (d : Draws) (len : Nat) (s : State) :
    (s.launched d len).a20m = false :=
  (State.complete_a20m d len _ (s.authenticated d)).trans (State.authenticated_a20m d s)
@[simp] theorem State.launched_pendingSingleStep (d : Draws) (len : Nat) (s : State) :
    (s.launched d len).pendingSingleStep = false :=
  State.complete_pendingSingleStep d len _ (s.authenticated d)
@[simp] theorem State.launched_monitor (d : Draws) (len : Nat) (s : State) :
    (s.launched d len).monitor = none :=
  (State.complete_monitor d len _ (s.authenticated d)).trans (State.authenticated_monitor d s)
@[simp] theorem State.launched_tlb (d : Draws) (len : Nat) (s : State) :
    (s.launched d len).tlb = [] :=
  (State.complete_tlb d len _ (s.authenticated d)).trans (State.authenticated_tlb d s)
@[simp] theorem State.launched_outgoing (d : Draws) (len : Nat) (s : State) :
    (s.launched d len).outgoing = [] :=
  (State.complete_outgoing d len _ (s.authenticated d)).trans (State.authenticated_outgoing d s)
@[simp] theorem State.launched_acram (d : Draws) (len : Nat) (s : State) :
    (s.launched d len).acram = ⟨true, s.acBase, s.finalBytes d⟩ :=
  (State.complete_acram d len _ (s.authenticated d)).trans (State.authenticated_acram d s)
@[simp] theorem State.launched_activity (d : Draws) (len : Nat) (s : State) :
    (s.launched d len).activity = s.activity :=
  (State.complete_activity d len _ (s.authenticated d)).trans (State.authenticated_activity d s)
@[simp] theorem State.launched_rlps (d : Draws) (len : Nat) (s : State) :
    (s.launched d len).rlps = s.rlps :=
  (State.complete_rlps d len _ (s.authenticated d)).trans (State.authenticated_rlps d s)
@[simp] theorem State.launched_snoopHitm (d : Draws) (len : Nat) (s : State) :
    (s.launched d len).snoopHitm = d.hitm :=
  (State.complete_snoopHitm d len _ (s.authenticated d)).trans (State.authenticated_snoopHitm d s)
@[simp] theorem State.launched_thermalUnit (d : Draws) (len : Nat) (s : State) :
    (s.launched d len).thermalUnit = s.thermalUnit :=
  (State.complete_thermalUnit d len _ (s.authenticated d)).trans (State.authenticated_thermalUnit d s)
@[simp] theorem State.launched_ierr (d : Draws) (len : Nat) (s : State) :
    (s.launched d len).ierr = s.ierr :=
  (State.complete_ierr d len _ (s.authenticated d)).trans (State.authenticated_ierr d s)
@[simp] theorem State.launched_chipset (d : Draws) (len : Nat) (s : State) :
    (s.launched d len).chipset = ⟨true, true, true⟩ := by
  rw [State.launched, State.complete_chipset, State.authenticated_chipset]
@[simp] theorem State.launched_mem (d : Draws) (len : Nat) (s : State) :
    (s.launched d len).mem = s.memView :=
  (State.complete_mem d len _ (s.authenticated d)).trans (State.authenticated_mem d s)
@[simp] theorem State.launched_status (d : Draws) (len : Nat) (s : State) :
    (s.launched d len).status = s.status :=
  (State.complete_status d len _ (s.authenticated d)).trans (State.authenticated_status d s)
@[simp] theorem State.launched_idtStale (d : Draws) (len : Nat) (s : State) :
    (s.launched d len).idtStale = true :=
  State.complete_idtStale d len _ (s.authenticated d)
@[simp] theorem State.launched_draws (d : Draws) (len : Nat) (s : State) :
    (s.launched d len).draws = s.draws + 1 :=
  (State.complete_draws d len _ (s.authenticated d)).trans (State.authenticated_draws d s)
@[simp] theorem State.launched_cfg (d : Draws) (len : Nat) (s : State) :
    (s.launched d len).cfg = s.cfg :=
  (State.complete_cfg d len _ (s.authenticated d)).trans (State.authenticated_cfg d s)

end Sys2Proof.Machine
end

