-- ==== Sys2Proof/Laws/Checks.lean ====
section
/-! SUPPORT. Each check of the model against the condition of the rules it stands for: one lemma a check, so that no
proof unfolds one. -/

namespace Sys2Proof.Machine

/-! ### Lines 0 to 8 of R120 -/

/-- The forbidden bytes are exactly the four of R102 and R105. -/
theorem isForbidden_eq_true_iff (p : PrefixByte) :
    isForbidden p = true ↔ p = .lock ∨ p = .repne ∨ p = .rep ∨ p = .opSize := by
  cases p <;> simp [isForbidden]

theorem carriesForbidden_eq_true_iff (before : List PrefixByte) :
    carriesForbidden before = true ↔ ∃ p ∈ before, p = .lock ∨ p = .repne ∨ p = .rep ∨ p = .opSize := by
  simp [carriesForbidden, isForbidden_eq_true_iff]

theorem carriesForbidden_eq_false_iff (before : List PrefixByte) :
    carriesForbidden before = false ↔ ∀ p ∈ before, p ≠ .lock ∧ p ≠ .repne ∧ p ≠ .rep ∧ p ≠ .opSize := by
  rw [← Bool.not_eq_true, carriesForbidden_eq_true_iff]
  simp [not_or]

theorem modeFault_eq_false_iff (s : State) : s.modeFault = false ↔ ModeAccepted s := by
  constructor
  · intro h
    simp only [State.modeFault, Bool.or_eq_false_iff, beq_eq_false_iff_ne, ne_eq, Bool.not_eq_false',
      decide_eq_false_iff_not, Nat.not_lt, Nat.le_zero_eq] at h
    obtain ⟨⟨⟨⟨⟨⟨⟨⟨⟨⟨h1, h2⟩, h3⟩, h4⟩, h5⟩, h6⟩, h7⟩, h8⟩, h9⟩, h10⟩, h11⟩ := h
    exact ⟨h1, h2, h3, h4, h5, h6, h7, h8, h9, h10, h11⟩
  · rintro ⟨h1, h2, h3, h4, h5, h6, h7, h8, h9, h10, h11⟩
    simp [State.modeFault, h1, h2, h3, h4, h5, h6, h7, h8, h9, h10, h11]

theorem bankFault_eq_false_iff (s : State) :
    s.bankFault = false ↔
      (s.cfg.mcaHandling = false → ∀ i, i < s.mcBankCount → s.cfg.isUncorrectable (s.mcStatus i) = false) := by
  cases h : s.cfg.mcaHandling <;> simp [State.bankFault, h]

theorem machineCheck_eq_false_iff (s : State) :
    s.bankFault = false ∧ s.machineCheckFault = false ↔ NoMachineCheck s := by
  rw [bankFault_eq_false_iff]
  constructor
  · rintro ⟨h1, h2⟩
    simp only [State.machineCheckFault, Bool.or_eq_false_iff] at h2
    exact ⟨h1, h2.1, h2.2⟩
  · rintro ⟨h1, h2, h3⟩
    exact ⟨h1, by simp [State.machineCheckFault, h2, h3]⟩

theorem rangeFault_eq_false_iff (s : State) : s.rangeFault = false ↔ RangeAccepted s := by
  constructor
  · intro h
    simp only [State.rangeFault, Bool.or_eq_false_iff, decide_eq_false_iff_not, ne_eq, Decidable.not_not,
      Nat.not_lt] at h
    obtain ⟨⟨⟨⟨h1, h2⟩, h3⟩, h4⟩, h5⟩ := h
    exact ⟨h1, h2, h3, h4, h5⟩
  · rintro ⟨h1, h2, h3, h4, h5⟩
    simp only [State.rangeFault, Bool.or_eq_false_iff, decide_eq_false_iff_not, ne_eq, Decidable.not_not, Nat.not_lt]
    exact ⟨⟨⟨⟨h1, h2⟩, h3⟩, h4⟩, h5⟩

theorem isIdle_eq_true_iff (a : Activity) : a.isIdle = true ↔ a = .waitForSipi ∨ a = .senterSleep := by
  cases a <;> simp [Activity.isIdle]

theorem threadFault_eq_false_iff (s : State) : s.threadFault = false ↔ SecondariesIdle s := by
  simp only [State.threadFault, List.any_eq_false, Rlp.isSecondary, Bool.and_eq_true, Bool.or_eq_true,
    Bool.not_eq_true', not_and, not_or, SecondariesIdle, ← isIdle_eq_true_iff]
  constructor
  · intro h p hp h1 h2
    simpa using h p hp ⟨h1, h2⟩
  · intro h p hp h12
    simpa using h p hp h12.1 h12.2

/-- Lines 0 to 3 of R120 pass exactly when the leaf is available; then the five `#GP(0)` checks decide. -/
theorem preLaunch_of_available {before : List PrefixByte} {s : State} (h : LeafAvailable before s) :
    preLaunch before s =
      if s.modeFault || s.bankFault || s.machineCheckFault || s.rangeFault || s.threadFault then .gp else .pass := by
  simp [preLaunch, (carriesForbidden_eq_false_iff before).mpr h.allowed, h.leaf, enteraccsLeaf, h.smxe, h.notNonRoot,
    h.supported]

/-- Only an available leaf reaches the `#GP(0)` checks. -/
theorem available_of_preLaunch {before : List PrefixByte} {s : State}
    (h : preLaunch before s = .gp ∨ preLaunch before s = .pass) : LeafAvailable before s := by
  simp only [preLaunch] at h
  split at h
  · simp at h
  · rename_i h1
    split at h
    · simp at h
    · rename_i h2
      split at h
      · simp at h
      · rename_i h3
        split at h
        · simp at h
        · rename_i h4
          split at h
          · simp at h
          · rename_i h5
            exact ⟨(carriesForbidden_eq_false_iff before).mp (by simpa using h1), by simpa [enteraccsLeaf] using h2,
              by simpa using h3, h4, by simpa using h5⟩

/-- All of lines 0 to 8 pass exactly under the conditions of R251. -/
theorem preLaunch_eq_pass_iff (before : List PrefixByte) (s : State) :
    preLaunch before s = .pass ↔ ChecksPass before s := by
  constructor
  · intro h
    have ha := available_of_preLaunch (Or.inr h)
    rw [preLaunch_of_available ha] at h
    split at h
    · simp at h
    · rename_i hf
      simp only [Bool.or_eq_true, not_or, Bool.not_eq_true] at hf
      obtain ⟨⟨⟨⟨h1, h2⟩, h3⟩, h4⟩, h5⟩ := hf
      exact ⟨ha, (modeFault_eq_false_iff s).mp h1, (machineCheck_eq_false_iff s).mp ⟨h2, h3⟩,
        (rangeFault_eq_false_iff s).mp h4, (threadFault_eq_false_iff s).mp h5⟩
  · rintro ⟨ha, hm, hc, hr, ht⟩
    have hc := (machineCheck_eq_false_iff s).mpr hc
    rw [preLaunch_of_available ha, (modeFault_eq_false_iff s).mpr hm, hc.1, hc.2, (rangeFault_eq_false_iff s).mpr hr,
      (threadFault_eq_false_iff s).mpr ht]
    rfl

/-- A `#GP(0)` exactly when the leaf is available and one of the five checks fires. -/
theorem preLaunch_eq_gp_iff (before : List PrefixByte) (s : State) :
    preLaunch before s = .gp ↔
      LeafAvailable before s ∧
        (s.modeFault = true ∨ s.bankFault = true ∨ s.machineCheckFault = true ∨ s.rangeFault = true ∨
          s.threadFault = true) := by
  constructor
  · intro h
    have ha := available_of_preLaunch (Or.inl h)
    rw [preLaunch_of_available ha] at h
    split at h
    · rename_i hf
      exact ⟨ha, by simpa [or_assoc] using hf⟩
    · simp at h
  · rintro ⟨ha, hf⟩
    rw [preLaunch_of_available ha, if_pos (by simpa [or_assoc] using hf)]

/-! ### Lines 14 to 24 of R120 -/

theorem acEnd_eq_pages {s : State} (h : s.acBase % 4096 = 0) :
    s.acEnd = 4096 * (s.acBase / 4096 + acramAlloc s.acSize / 4096) := by
  unfold State.acEnd acramAlloc
  omega

/-- R156 over the addresses of the allocation, which the model decides page by page (R34). -/
theorem acramIsWb_iff {s : State} (h : s.acBase % 4096 = 0) : s.acramIsWb = true ↔ AcramWriteBack s := by
  rw [State.acramIsWb, pagesAreWb_iff, AcramWriteBack, acEnd_eq_pages h]
  constructor
  · intro hp a h1 h2
    exact hp (a / 4096) (by omega) (by omega)
  · intro ha q h1 h2
    have := ha (q * 4096) (by omega) (by omega)
    rwa [State.memTypeOf, Nat.mul_div_cancel q (by decide)] at this

theorem kindSupported_iff (c : Config) (h : Header) : kindSupported c h = true ↔ KindAccepted c h := by
  simp [kindSupported, KindAccepted]

theorem hitmUnexpected_eq_true_iff (h : Header) (hitm : Bool) :
    hitmUnexpected h hitm = true ↔ HitmUnexpected h hitm := by
  simp [hitmUnexpected, HitmUnexpected, Header.control0, Header.control1, and_assoc]

/-- R163 to R171: the header passes exactly when no snoop hit is unexpected and it is consistent. -/
theorem formatFault_eq_none_iff (c : Config) (acSize : Nat) (hitm : Bool) (h : Header) :
    formatFault c acSize hitm h = none ↔ ¬ HitmUnexpected h hitm ∧ HeaderConsistent c acSize hitm h := by
  constructor
  · intro hf
    simp only [formatFault] at hf
    split at hf
    · simp at hf
    · rename_i h1
      split at hf
      · simp at hf
      · rename_i h2
        split at hf
        · simp at hf
        · rename_i h3
          split at hf
          · simp at hf
          · rename_i h4
            split at hf
            · simp at hf
            · rename_i h5
              split at hf
              · simp at hf
              · rename_i h6
                split at hf
                · simp at hf
                · rename_i h7
                  simp only [gdtMisplaced, entryMisplaced, selectorOutOfRange, selectorMalformed, Bool.or_eq_true,
                    decide_eq_true_eq, not_or, Nat.not_lt, Nat.not_le, Int.not_lt] at h3 h4 h6 h7
                  refine ⟨fun g => h1 ((hitmUnexpected_eq_true_iff h hitm).mpr g), by simpa [controlReserved] using h2, h3.1, h3.2, h4.2, h4.1,
                    by simpa [limitTooWide] using h5, h6.1, h6.2, by simpa [selTi] using h7.1,
                    by simpa [selRpl] using h7.2⟩
  · rintro ⟨h1, h2, h3, h4, h5, h6, h7, h8, h9, h10, h11⟩
    have g1 : hitmUnexpected h hitm = false := by
      rw [← Bool.not_eq_true, hitmUnexpected_eq_true_iff]
      exact h1
    have g2 : controlReserved c h = false := by simpa [controlReserved] using h2
    have g3 : gdtMisplaced acSize h = false := by
      simp only [gdtMisplaced, Bool.or_eq_false_iff, decide_eq_false_iff_not, Nat.not_lt, Nat.not_le]
      exact ⟨h3, h4⟩
    have g4 : entryMisplaced acSize (h.entryOff hitm) h = false := by
      simp only [entryMisplaced, Bool.or_eq_false_iff, decide_eq_false_iff_not, Nat.not_lt, Nat.not_le]
      exact ⟨h6, h5⟩
    have g5 : limitTooWide h = false := by simpa [limitTooWide] using h7
    have g6 : selectorOutOfRange h = false := by
      simp only [selectorOutOfRange, Bool.or_eq_false_iff, decide_eq_false_iff_not, Nat.not_lt, Int.not_lt]
      exact ⟨h8, h9⟩
    have g7 : selectorMalformed h = false := by simp [selectorMalformed, selTi, selRpl, h10, h11]
    simp [formatFault, g1, g2, g3, g4, g5, g6, g7]

/-- The only names lines 18 to 24 give: a snoop hit the module asked to be shut down on, else the format. -/
theorem formatFault_eq_some (c : Config) (acSize : Nat) (hitm : Bool) (h : Header) :
    formatFault c acSize hitm h =
      if hitmUnexpected h hitm then some .unexpectedHITM
      else if formatFault c acSize hitm h = none then none else some .badACMFormat := by
  simp only [formatFault]
  split
  · rfl
  · repeat (first | split | rfl | simp_all)

/-- The first `ACSIZE` bytes of the loaded ACRAM are the module's bytes in memory (R154). -/
@[simp] theorem State.moduleBytes_loaded (d : Draws) (s : State) : (s.loaded d).moduleBytes = s.sourceBytes := by
  rw [State.moduleBytes, State.loaded_acram, State.acSize, State.loaded_gpr]
  exact take_loadedBytes d.pad s.memView s.acBase s.acSize

theorem State.acramIsWb_loaded (d : Draws) (s : State) : (s.loaded d).acramIsWb = s.acramIsWb := by
  rw [State.acramIsWb, State.acramIsWb, State.acBase, State.acSize, State.loaded_gpr, State.loaded_memTypes,
    ← State.acBase, ← State.acSize]

/-- Lines 14 to 16, as conditions on the memory types, the header and the module. -/
theorem loadFault_loaded (d : Draws) (s : State) :
    (s.loaded d).loadFault d =
      if !s.acramIsWb then some .badACMMType
      else if !kindSupported s.cfg (s.loadedHeader d) then some .unsupportedACM
      else if !keyAccepted s.cfg s.sourceBytes then some .authenticateFail
      else none := by
  rw [State.loadFault, State.moduleBytes_loaded, State.loaded_cfg, State.acramIsWb_loaded, ← State.loadedHeader]

theorem moduleAuthentic_iff (d : Draws) (s : State) :
    ModuleAuthentic d s ↔
      keyAccepted s.cfg s.sourceBytes = true ∧
        signatureAccepted s.cfg (s.loadedHeader d).scratchStart s.sourceBytes = true := by
  simp [ModuleAuthentic, authentic]

/-! ### The obligations on the platform (R253, R254) -/

/-- R253 over addresses, which the model decides page by page. -/
theorem outsideTypesAllowed_iff {s : State} (h : s.acBase % 4096 = 0) :
    s.outsideTypesAllowed = true ↔
      ∀ a, ¬ (s.acBase ≤ a ∧ a < s.acEnd) → s.memTypeOf a ∈ s.cfg.memTypesAllowed := by
  rw [acEnd_eq_pages h]
  simp only [State.outsideTypesAllowed, Bool.and_eq_true, List.all_eq_true, Bool.or_eq_true, decide_eq_true_eq,
    List.contains_iff_mem]
  constructor
  · rintro ⟨hd, hp⟩ a ha
    rw [State.memTypeOf, MemTypes.ofPage]
    by_cases hl : ∃ e ∈ s.memTypes.pages, e.1 = a / 4096
    · obtain ⟨e, he, hea⟩ := hl
      rcases hp e he with hin | hout
      · omega
      · rwa [MemTypes.ofPage, hea] at hout
    · rwa [Table.lookup_eq_default fun e he hea => hl ⟨e, he, hea⟩]
  · intro ha
    constructor
    · obtain ⟨p, hp, hl⟩ :=
        exists_page_above s.memTypes.pages (s.acBase / 4096 + acramAlloc s.acSize / 4096)
      have := ha (p * 4096) (by omega)
      rwa [State.memTypeOf, Nat.mul_div_cancel p (by decide), MemTypes.ofPage,
        Table.lookup_eq_default fun e he => Nat.ne_of_lt (hl e he)] at this
    · intro e he
      by_cases hin : s.acBase / 4096 ≤ e.1 ∧ e.1 < s.acBase / 4096 + acramAlloc s.acSize / 4096
      · exact Or.inl hin
      · have := ha (e.1 * 4096) (by omega)
        rw [State.memTypeOf, Nat.mul_div_cancel e.1 (by decide)] at this
        exact Or.inr this

theorem platformIdle_iff (s : State) :
    s.platformIdle = true ↔
      ∀ p ∈ s.rlps, p.samePackage = false → p.activity = .waitForSipi ∨ p.activity = .senterSleep := by
  simp only [State.platformIdle, List.all_eq_true, Bool.or_eq_true, isIdle_eq_true_iff]
  exact forall₂_congr fun p _ => by cases p.samePackage <;> simp

end Sys2Proof.Machine
end

