-- ==== Sys2Proof/Laws/Decode.lean ====
section
/-! SUPPORT. The bytes before the opcode, one by one: each byte of R105 names its class, and no class's byte is the
opcode's or a REX byte by accident. -/

namespace Sys2Proof

/-- The byte of a class other than REX is read back as that class. -/
theorem legacyPrefix_toByte (p : PrefixByte) (h : p.isRex = false) : legacyPrefix p.toByte = some p := by
  cases p with
  | seg r => cases r <;> decide
  | rex w => simp [PrefixByte.isRex] at h
  | _ => decide

/-- No byte before the opcode is the opcode's first byte. -/
theorem toByte_ne_opcode (p : PrefixByte) : p.toByte ≠ 0x0F#8 := by
  cases p with
  | seg r => cases r <;> decide
  | rex w => revert w; decide
  | _ => decide

/-- A REX byte is none of the other classes, is recognised, and keeps its four low bits. -/
theorem rex_toByte (w : BitVec 4) :
    legacyPrefix (PrefixByte.rex w).toByte = none ∧ isRexByte (PrefixByte.rex w).toByte = true ∧
      (PrefixByte.rex w).toByte.extractLsb' 0 4 = w := by
  revert w
  decide

/-- A byte read as a class other than REX is that class's byte. -/
theorem toByte_of_legacyPrefix {b : Byte} {p : PrefixByte} (h : legacyPrefix b = some p) :
    p.toByte = b ∧ p.isRex = false := by
  revert p
  revert b
  decide

/-- A byte recognised as REX is the REX byte of its four low bits. -/
theorem toByte_of_isRexByte {b : Byte} (h : isRexByte b = true) : (PrefixByte.rex (b.extractLsb' 0 4)).toByte = b := by
  revert b
  decide

/-- An instruction's bytes are as many as its length says (R107). -/
theorem length_encode (i : Instr) : (encode i).length = i.byteLength := by
  cases i with
  | getsecEnteraccs before => simp [encode, Instr.byteLength, Nat.add_comm]

end Sys2Proof
end

