-- ==== Sys2Proof/Laws/Enteraccs.lean ====
section
/-! SUPPORT. Everything one execution of the leaf, and one step of the machine, can answer: proofs take the cases from
here and unfold neither. -/

namespace Sys2Proof.Machine

/-- Line 17, then lines 18 to 24, as conditions on the module and the header authentication left. -/
theorem moduleFault_eq (d : Draws) (s : State) :
    s.moduleFault d =
      if !signatureAccepted s.cfg (s.loadedHeader d).scratchStart s.sourceBytes then some .authenticateFail
      else formatFault s.cfg s.acSize d.hitm (s.finalHeader d) := by
  rw [State.moduleFault, State.moduleBytes_loaded, ← State.loadedHeader, ← State.finalHeader]

/-- No TXT shutdown exactly for an accepted module (R251). -/
theorem moduleAccepted_iff {s : State} (d : Draws) (h : s.acBase % 4096 = 0) :
    ModuleAccepted d s ↔ (s.loaded d).loadFault d = none ∧ s.moduleFault d = none := by
  rw [loadFault_loaded, moduleFault_eq]
  constructor
  · rintro ⟨h1, h2, h3, h4, h5⟩
    have h3 := (moduleAuthentic_iff d s).mp h3
    simp [(acramIsWb_iff h).mpr h1, (kindSupported_iff _ _).mpr h2, h3.1, h3.2,
      (formatFault_eq_none_iff _ _ _ _).mpr ⟨h4, h5⟩]
  · rintro ⟨hl, hm⟩
    split at hl
    · simp at hl
    · rename_i g1
      split at hl
      · simp at hl
      · rename_i g2
        split at hl
        · simp at hl
        · rename_i g3
          split at hm
          · simp at hm
          · rename_i g4
            exact ⟨(acramIsWb_iff h).mp (by simpa using g1), (kindSupported_iff _ _).mp (by simpa using g2),
              (moduleAuthentic_iff d s).mpr ⟨by simpa using g3, by simpa using g4⟩,
              ((formatFault_eq_none_iff _ _ _ _).mp hm).1, ((formatFault_eq_none_iff _ _ _ _).mp hm).2⟩

theorem platformReady_iff {s : State} (h : s.acBase % 4096 = 0) :
    PlatformReady s ↔ s.outsideTypesAllowed = true ∧ s.platformIdle = true := by
  rw [outsideTypesAllowed_iff h, platformIdle_iff]
  exact ⟨fun ⟨h1, h2⟩ => ⟨h1, h2⟩, fun ⟨h1, h2⟩ => ⟨h1, h2⟩⟩

/-- Past the `#GP(0)` checks the leaf is a launch. -/
theorem enteraccs_of_checks {before : List PrefixByte} {s : State} (d : Draws) (h : ChecksPass before s) :
    enteraccs d before s = launch d (2 + before.length) s := by
  rw [enteraccs, (preLaunch_eq_pass_iff before s).mpr h]
  rfl

/-- A module refused before authentication is complete (lines 14 to 16). -/
theorem launch_of_loadFault {d : Draws} {s : State} {e : TxtError} (len : Nat)
    (h : (s.loaded d).loadFault d = some e) : launch d len s = .next ((s.loaded d).txtShutdown e) := by
  rw [launch, h]

/-- A module refused from line 17 on. -/
theorem launch_of_moduleFault {d : Draws} {s : State} {e : TxtError} (len : Nat)
    (hl : (s.loaded d).loadFault d = none) (h : s.moduleFault d = some e) :
    launch d len s = .next ((s.authenticated d).txtShutdown e) := by
  rw [launch, hl, h]

/-- An accepted module on a platform that is not ready is given no meaning (R253, R254). -/
theorem launch_of_accepted {d : Draws} {s : State} (len : Nat) (hb : s.acBase % 4096 = 0) (h : ModuleAccepted d s) :
    launch d len s =
      if !s.outsideTypesAllowed then .refused .memTypesOutsideModule
      else if !s.platformIdle then .refused .platformNotIdle
      else .next (s.launched d len) := by
  have h := (moduleAccepted_iff d hb).mp h
  rw [launch, h.1, h.2]

/-- The leaf reaches `Launched` under the conditions of R251, R253 and R254. -/
theorem enteraccs_of_ready {d : Draws} {before : List PrefixByte} {s : State} (h : LaunchReady d before s) :
    enteraccs d before s = .next (s.launched d (2 + before.length)) := by
  have hb := h.checks.range.base
  have hp := (platformReady_iff hb).mp h.platform
  rw [enteraccs_of_checks d h.checks, launch_of_accepted _ hb h.module, hp.1, hp.2]
  rfl

/-- Every next state of the leaf (R11): the four ends other than `Launched`, and `Launched` only when all of R251
holds. -/
theorem enteraccs_cases {d : Draws} {before : List PrefixByte} {s t : State} (h : enteraccs d before s = .next t) :
    t = s.takeException .ud ∨ t = s.takeVmExit ∨ t = s.takeException (.gp 0#32) ∨
      (ChecksPass before s ∧ ∃ e, (s.loaded d).loadFault d = some e ∧ t = (s.loaded d).txtShutdown e) ∨
      (ChecksPass before s ∧ (s.loaded d).loadFault d = none ∧
        ∃ e, s.moduleFault d = some e ∧ t = (s.authenticated d).txtShutdown e) ∨
      (LaunchReady d before s ∧ t = s.launched d (2 + before.length)) := by
  rw [enteraccs] at h
  split at h
  · exact .inl (Host.Outcome.next.inj h).symm
  · simp at h
  · exact .inr (.inl (Host.Outcome.next.inj h).symm)
  · exact .inr (.inr (.inl (Host.Outcome.next.inj h).symm))
  · rename_i hp
    have hc := (preLaunch_eq_pass_iff before s).mp hp
    rw [launch] at h
    split at h
    · rename_i e he
      exact .inr (.inr (.inr (.inl ⟨hc, e, he, (Host.Outcome.next.inj h).symm⟩)))
    · rename_i hl
      split at h
      · rename_i e he
        exact .inr (.inr (.inr (.inr (.inl ⟨hc, hl, e, he, (Host.Outcome.next.inj h).symm⟩))))
      · rename_i hm
        have hb := hc.range.base
        split at h
        · simp at h
        · rename_i g1
          split at h
          · simp at h
          · rename_i g2
            exact .inr (.inr (.inr (.inr (.inr ⟨⟨hc, (moduleAccepted_iff d hb).mpr ⟨hl, hm⟩,
              (platformReady_iff hb).mpr ⟨by simpa using g1, by simpa using g2⟩⟩, (Host.Outcome.next.inj h).symm⟩))))

/-- `exec` of the leaf is the leaf with the free values of the state's next draw. -/
theorem exec_getsecEnteraccs (before : List PrefixByte) (s : State) :
    exec (.getsecEnteraccs before) s = enteraccs (drawsAt s.draws) before s := rfl

/-- Every next state of a step: the processor executes, and either its instruction answers it or the bytes at the
instruction pointer are longer than an instruction may be (R107). -/
theorem step_cases {s t : State} (h : step s = .next t) :
    Executing s ∧
      ((∃ i rest, decode s.in64 s.fetchBytes = .instr i rest ∧ exec i s = .next t) ∨
        (decode s.in64 s.fetchBytes = .tooLong ∧ t = s.takeException (.gp 0#32))) := by
  rw [step] at h
  split at h
  · rename_i hs
    rw [runActive] at h
    split at h
    · rename_i ha
      refine ⟨⟨hs, ha⟩, ?_⟩
      rw [runDecoded.eq_def] at h
      split at h
      · rename_i i rest hd
        exact .inl ⟨i, rest, hd, h⟩
      · rename_i hd
        exact .inr ⟨hd, (Host.Outcome.next.inj h).symm⟩
      · simp at h
      · simp at h
    all_goals simp at h
  · rw [afterException] at h
    split at h <;> simp at h
  · simp at h
  · simp at h

/-- A step of an executing processor is what the decoder's answer leads to. -/
theorem step_of_executing {s : State} (h : Executing s) : step s = runDecoded s (decode s.in64 s.fetchBytes) := by
  rw [step, h.status]
  simp only [runActive, h.activity]

end Sys2Proof.Machine
end

