-- ==== Sys2Proof/Laws/Draws.lean ====
section
/-! SUPPORT. Where the free values of a load cannot be seen: a header field inside the module and outside its scratch
area has the same value under every draw. And the halves of a register joined from two. -/

namespace Sys2Proof

/-- The low half of a register joined from two halves (R8). -/
@[simp] theorem Word.lo_ofHalves (hi lo : Half) : (Word.ofHalves hi lo).lo = lo := by
  apply BitVec.eq_of_toNat_eq
  simp only [Word.lo, Word.ofHalves, BitVec.extractLsb'_toNat, BitVec.toNat_append, Nat.shiftRight_zero]
  rw [Nat.or_mod_two_pow, Nat.shiftLeft_eq, Nat.mul_mod_left, Nat.zero_or]
  omega

/-- The high half of a register joined from two halves (R8). -/
@[simp] theorem Word.hi_ofHalves (hi lo : Half) : (Word.ofHalves hi lo).hi = hi := by
  apply BitVec.eq_of_toNat_eq
  simp only [Word.hi, Word.ofHalves, BitVec.extractLsb'_toNat, BitVec.toNat_append]
  rw [Nat.shiftRight_or_distrib, Nat.shiftLeft_shiftRight, Nat.shiftRight_eq_div_pow,
    Nat.div_eq_of_lt lo.isLt, Nat.or_zero, Nat.mod_eq_of_lt hi.isLt]

namespace Machine

/-- A field depends on its own bytes alone (R72). -/
theorem fieldValue_congr {pad pad' : Nat → Byte} {ram ram' : List Byte} :
    ∀ (w off : Nat), (∀ o, off ≤ o → o < off + w → ram.getD o (pad o) = ram'.getD o (pad' o)) →
      fieldValue pad ram off w = fieldValue pad' ram' off w
  | 0, _, _ => rfl
  | w + 1, off, h => by
    rw [fieldValue, fieldValue, h off (Nat.le_refl off) (by omega),
      fieldValue_congr w (off + 1) fun o h1 h2 => h o (by omega) (by omega)]

/-- A field inside the module, as loaded, is the same under every draw (R154). -/
theorem acramField_loaded_congr (d d' : Draws) {s : State} {f : FieldLoc} (h : f.off + f.width ≤ s.acSize) :
    acramField d.pad (s.loaded d).acram.bytes f = acramField d'.pad (s.loaded d').acram.bytes f := by
  refine fieldValue_congr _ _ fun o _ h2 => ?_
  have ho : o < s.acSize := by omega
  simp only [State.loaded_acram, getD_loadedBytes _ _ _ _ _ _ ho]

/-- A field inside the module and outside the scratch area is the same under every draw once the module is
authenticated (R161, R162). -/
theorem acramField_authenticated_congr (d d' : Draws) {s : State} {f : FieldLoc} (h : f.off + f.width ≤ s.acSize)
    (hh : s.loadedHeader d = s.loadedHeader d')
    (hs : f.off + f.width ≤ (s.loadedHeader d').scratchStart ∨ (s.loadedHeader d').bodyStart ≤ f.off) :
    acramField d.pad (s.authenticated d).acram.bytes f = acramField d'.pad (s.authenticated d').acram.bytes f := by
  refine fieldValue_congr _ _ fun o h1 h2 => ?_
  have ho : o < s.acSize := by omega
  have hl : ∀ pad : Nat → Byte, o < (loadedBytes pad s.memView s.acBase s.acSize).length := fun pad => by
    rw [length_loadedBytes]
    exact Nat.lt_of_lt_of_le ho (le_acramAlloc s.acSize)
  have hn : ¬ ((s.loadedHeader d').scratchStart ≤ o ∧ o < (s.loadedHeader d').bodyStart) := by omega
  simp only [State.authenticated_acram, State.finalBytes, hh, getD_mapOffsets _ _ _ _ _ (hl _), Nat.zero_add,
    if_neg hn, getD_loadedBytes _ _ _ _ _ _ ho]

end Machine

end Sys2Proof
end

