-- ==== Sys2Proof/Laws/PerInstr.lean ====
section
/-! SUPPORT. Statements for all instructions, made instruction by instruction. -/

namespace Sys2Proof.Laws.Encoded

/-- A well-formed instruction's bytes number at least 2 and at most 15, and end with the opcode `0F 37`
(R100, R107). -/
def Statement (i : Instr) : Prop :=
  ∀ mode64, i.wellFormed mode64 = true →
    2 ≤ (encode i).length ∧ (encode i).length ≤ 15 ∧ (encode i).drop (i.byteLength - 2) = [0x0F#8, 0x37#8]

theorem getsecEnteraccs (before : List PrefixByte) : Statement (.getsecEnteraccs before) := by
  intro mode64 h
  simp only [Instr.wellFormed, Bool.and_eq_true, decide_eq_true_eq] at h
  rw [length_encode]
  refine ⟨by simp [Instr.byteLength], by simp only [Instr.byteLength]; omega, ?_⟩
  simp [encode, Instr.byteLength]

end Sys2Proof.Laws.Encoded
end

