-- ==== Sys2Proof/Tests/Slice0.lean ====
section
/-! SUPPORT. The model's own tests: expected values are those of 95_test_vectors.md or worked out by hand from the
encodings of 30_encoding.md. Then, for every obligation with hypotheses, a named state that meets them together. -/

namespace Sys2Proof.Tests

open Sys2Proof.Machine

/-! ### Well-formedness: one ill-formed term for each check -/

/-- Thirteen bytes before the opcode are the most R107 allows; a fourteenth is refused. -/
theorem test_wellFormed_refuses_too_long :
    Instr.wellFormed false (.getsecEnteraccs (List.replicate 13 .addrSize)) = true ∧
      Instr.wellFormed false (.getsecEnteraccs (List.replicate 14 .addrSize)) = false := by decide

/-- A REX byte outside 64-bit mode is refused (R107). -/
theorem test_wellFormed_refuses_rex_outside_64 :
    Instr.wellFormed true (.getsecEnteraccs [.rex 0x8#4]) = true ∧
      Instr.wellFormed false (.getsecEnteraccs [.rex 0x8#4]) = false := by decide

/-- A REX byte that is not the last byte before the opcode is refused (R107). -/
theorem test_wellFormed_refuses_rex_not_last :
    Instr.wellFormed true (.getsecEnteraccs [.seg .cs, .rex 0x8#4]) = true ∧
      Instr.wellFormed true (.getsecEnteraccs [.rex 0x8#4, .seg .cs]) = false := by decide

/-! ### Decoding: words written out from R100 and R105 (95_test_vectors.md 3.1) -/

/-- `0000 1111 0011 0111`, byte `0F` first: word 370FH of the table. -/
theorem test_decode_table_word : decodeTableWord 16 0x370F = some (.getsecEnteraccs []) := by decide

/-- `0F 38` and `0E 37` are no `GETSEC`. -/
theorem test_decode_refuses_neighbours :
    decode false [0x0F#8, 0x38#8] = .otherOpcode ∧ decode false [0x0E#8, 0x37#8] = .otherOpcode ∧
      decodeTableWord 16 0x360F = none := by decide

/-- `2E 67 48 0F 37` of program P2: segment override, address size, REX.W. -/
theorem test_decode_p2_bytes :
    decode true [0x2E#8, 0x67#8, 0x48#8, 0x0F#8, 0x37#8] =
      .instr (.getsecEnteraccs [.seg .cs, .addrSize, .rex 0x8#4]) [] := by decide

/-- Fourteen bytes before the opcode: longer than 15 bytes (R107). -/
theorem test_decode_too_long :
    decode false (List.replicate 14 0x66#8 ++ [0x0F#8, 0x37#8]) = .tooLong ∧
      decode false (List.replicate 13 0x66#8 ++ [0x0F#8, 0x37#8]) =
        .instr (.getsecEnteraccs (List.replicate 13 .opSize)) [] := by decide

/-! ### Configuration T, module M1, base state S0 (95_test_vectors.md part 2) -/

/-- A field of four bytes. -/
def field4 (off : Nat) : FieldLoc := { off := off, width := 4 }

/-- The suggested layout of R155 (G10). -/
def layoutT : Layout :=
  { headerVersion := field4 8
    moduleType := { off := 0, width := 2 }
    headerLen := field4 4
    codeControl := field4 32
    errorEntryPoint := field4 36
    entryPoint := field4 52
    gdtBasePtr := field4 44
    gdtLimit := field4 40
    segSel := field4 48 }

/-- The function that answers the same string everywhere: with it every module is authentic. -/
def constantly {α : Type} (v : List Byte) : Table α (List Byte) := { graph := [], other := v }

/-- Configuration T. -/
def configT : Config :=
  { enteraccsSupported := true
    txtChipsetPresent := true
    mcaHandlingEntry := some false
    acramCapacity := 0x8000
    minModuleSize := 0x400
    maskConst := 0xFFFFFFFFFFF37CEA#64
    otherThermalMonitorEnabled := { graph := [], other := false }
    signatureLen := 4
    signatureElemBytes := 4
    supportedHeaderVersions := [0]
    acmControlReserved := 0xFFFFFFFC#32
    layout := layoutT
    scratchSize := .field (field4 124) 4
    getKey := constantly []
    hashKey := constantly []
    decrypt := constantly []
    hashModule := constantly []
    txtPublicKey := []
    supportedMemTypes := []
    mcgCap := 0x0000000000000004#64
    mcUncorrectable := [(0xA000000000000000#64, 0xA000000000000000#64)]
    txtErrorCode :=
      { badACMMType := 1, unsupportedACM := 2, authenticateFail := 3, unexpectedHITM := 4, badACMFormat := 5 }
    numLogicalProcessors := 1
    vmexitReasonGetsec := 11
    maskedEventLatched := { init := false, a20m := false, nmi := true, smi := false } }

/-- Module M1 at 00100000H, and `0F 37` at 00007C00H. -/
def memM1 : Memory :=
  [(0x7C00, 0x0F#8), (0x7C01, 0x37#8), (0x100000, 0x02#8), (0x100004, 0xA1#8), (0x100024, 0xF0#8),
    (0x100025, 0x04#8), (0x100028, 0x17#8), (0x10002C, 0xC0#8), (0x10002D, 0x04#8), (0x100030, 0x08#8),
    (0x100034, 0xE0#8), (0x100035, 0x04#8), (0x10007C, 0x8F#8), (0x1004E0, 0x0F#8), (0x1004E1, 0x37#8),
    (0x1004F0, 0x0F#8), (0x1004F1, 0x37#8)]

/-- Base state S0 in the form of program P1: 32-bit protected mode, paging on, page 7 mapped to itself. -/
def stateS0 : State :=
  { State.reset with
    gpr :=
      { State.reset.gpr with
        rax := 0x0000000000000002#64
        rbx := 0x0000000000100000#64
        rcx := 0x0000000000001000#64 }
    rip := 0x0000000000007C00#64
    eflags := 0x00000346#32
    ctrl := { State.reset.ctrl with cr0 := 0x0000000080050033#64, cr4 := 0x0000000000004060#64 }
    msr := { State.reset.msr with miscEnable := 0x0000000000850089#64, mcgCap := 0x0000000000000004#64 }
    memTypes := { pages := [(0x100, .wb)], default := .uc }
    seg := { State.reset.seg with cs := { resetCs with sel := 0x0008#16, base := 0#64, d := true } }
    gdtr := { base := 0x0000000000009000#64, limit := 0x0027#16 }
    tlb := [(7, 7)]
    rlps := []
    mem := memM1
    cfg := configT }

/-- S0 in compatibility mode: the second row of 3.7. -/
def stateCompat : State :=
  { stateS0 with
    rip := 0x0000000000401000#64
    msr := { stateS0.msr with efer := 0x0000000000000500#64 }
    seg := { stateS0.seg with cs := { stateS0.seg.cs with sel := 0x0020#16 } }
    gdtr := { base := 0xFFFFF80000001000#64, limit := 0x007F#16 } }

/-- S0 in 64-bit mode: program P2 and the third row of 3.7. -/
def state64 : State :=
  { stateCompat with seg := { stateS0.seg with cs := { stateS0.seg.cs with sel := 0x0010#16, d := false, l := true } } }

/-- The state with one byte of memory written: a changed module. -/
def withByte (a : Nat) (v : Byte) (s : State) : State := { s with mem := Memory.write s.mem a v }

/-- The state with another configuration. -/
def withCfg (c : Config) (s : State) : State := { s with cfg := c }

/-- The state with the three inputs set. -/
def withInputs (a b c : Word) (s : State) : State :=
  { s with gpr := { s.gpr with
                    rax := a
                    rbx := b
                    rcx := c } }

/-- The state with other logical processors. -/
def withRlps (r : List Rlp) (s : State) : State := { s with rlps := r }

/-- The state with another status register's value. -/
def withCr0 (w : Word) (s : State) : State := { s with ctrl := { s.ctrl with cr0 := w } }

/-- A logical processor of the package. -/
def rlpT (a : Activity) (cd : Bool) : Rlp := { samePackage := true, enabled := true, activity := a, cr0CD := cd }

/-- A draw: every byte 0, with a chosen snoop-HITM indicator. -/
def drawT (hitm : Bool) : Draws :=
  { hitm := hitm, pad := fun _ => 0#8, scratch := fun _ => 0#8, rbxHi := 0#32, rcxHi := 0#32, rdxHi := 0#32, rbpHi := 0#32 }

/-! ### Deciding the hypotheses, whatever the free values are -/

/-- Configuration T's layout in a module that holds a whole header. -/
def fitsT (s : State) : Bool :=
  decide (s.cfg.layout = layoutT) && decide (s.cfg.scratchSize = .field (field4 124) 4) && decide (128 ≤ s.acSize) &&
    decide (128 ≤ (s.loadedHeader (drawT false)).scratchStart)

theorem fitsT_iff (s : State) :
    fitsT s = true ↔ s.cfg.layout = layoutT ∧ s.cfg.scratchSize = .field (field4 124) 4 ∧ 128 ≤ s.acSize ∧
      128 ≤ (s.loadedHeader (drawT false)).scratchStart := by
  simp [fitsT, and_assoc]

/-- The loaded header does not depend on the draw. -/
theorem loadedHeader_eq (d : Draws) {s : State} (h : fitsT s = true) :
    s.loadedHeader d = s.loadedHeader (drawT false) := by
  obtain ⟨hl, hs, hn, -⟩ := (fitsT_iff s).mp h
  have key : ∀ f : FieldLoc, f.off + f.width ≤ 128 →
      acramField d.pad (s.loaded d).acram.bytes f =
        acramField (drawT false).pad (s.loaded (drawT false)).acram.bytes f :=
    fun f hf => acramField_loaded_congr d (drawT false) (by omega)
  simp only [State.loadedHeader, State.header, readHeader, scratchBytes, State.loaded_cfg, hl, hs, layoutT,
    key { off := 0, width := 2 } (by decide), key (field4 4) (by decide), key (field4 8) (by decide),
    key (field4 32) (by decide), key (field4 36) (by decide), key (field4 40) (by decide),
    key (field4 44) (by decide), key (field4 48) (by decide), key (field4 52) (by decide),
    key (field4 124) (by decide)]

/-- The header after authentication does not depend on the draw. -/
theorem finalHeader_eq (d : Draws) {s : State} (h : fitsT s = true) :
    s.finalHeader d = s.finalHeader (drawT false) := by
  obtain ⟨hl, hs, hn, hb⟩ := (fitsT_iff s).mp h
  have key : ∀ f : FieldLoc, f.off + f.width ≤ 128 →
      acramField d.pad (s.authenticated d).acram.bytes f =
        acramField (drawT false).pad (s.authenticated (drawT false)).acram.bytes f :=
    fun f hf => acramField_authenticated_congr d (drawT false) (by omega) (loadedHeader_eq d h) (.inl (by omega))
  simp only [State.finalHeader, State.header, readHeader, scratchBytes, State.authenticated_cfg, hl, hs, layoutT,
    key { off := 0, width := 2 } (by decide), key (field4 4) (by decide), key (field4 8) (by decide),
    key (field4 32) (by decide), key (field4 36) (by decide), key (field4 40) (by decide),
    key (field4 44) (by decide), key (field4 48) (by decide), key (field4 52) (by decide),
    key (field4 124) (by decide)]

/-- Lines 14 to 17 pass whatever the draw. -/
def authenticT (s : State) : Bool :=
  fitsT s && decide (s.acBase % 4096 = 0) && s.acramIsWb && kindSupported s.cfg (s.loadedHeader (drawT false)) &&
    authentic s.cfg (s.loadedHeader (drawT false)).scratchStart s.sourceBytes

theorem authenticT_spec {s : State} (h : authenticT s = true) (d : Draws) :
    fitsT s = true ∧ s.acBase % 4096 = 0 ∧ AcramWriteBack s ∧ KindAccepted s.cfg (s.loadedHeader d) ∧
      ModuleAuthentic d s := by
  simp only [authenticT, Bool.and_eq_true, decide_eq_true_eq] at h
  obtain ⟨⟨⟨⟨h1, h2⟩, h3⟩, h4⟩, h5⟩ := h
  have hd := loadedHeader_eq d h1
  exact ⟨h1, h2, (acramIsWb_iff h2).mp h3, by rw [hd]; exact (kindSupported_iff _ _).mp h4,
    by rw [ModuleAuthentic, hd]; exact h5⟩

/-- No check of lines 0 to 24 fails, whatever the draw. -/
def acceptedT (before : List PrefixByte) (s : State) : Bool :=
  preLaunch before s == .pass && authenticT s &&
    formatFault s.cfg s.acSize true (s.finalHeader (drawT false)) == none &&
    formatFault s.cfg s.acSize false (s.finalHeader (drawT false)) == none

theorem accepted_of {before : List PrefixByte} {s : State} (h : acceptedT before s = true) (d : Draws) :
    ChecksPass before s ∧ ModuleAccepted d s := by
  simp only [acceptedT, Bool.and_eq_true, beq_iff_eq] at h
  obtain ⟨⟨⟨h1, h2⟩, h5⟩, h6⟩ := h
  obtain ⟨hf, -, hw, hk, ha⟩ := authenticT_spec h2 d
  have hx : formatFault s.cfg s.acSize d.hitm (s.finalHeader d) = none := by
    rw [finalHeader_eq d hf]
    cases d.hitm
    · exact h6
    · exact h5
  have hx := (formatFault_eq_none_iff _ _ _ _).mp hx
  exact ⟨(preLaunch_eq_pass_iff _ _).mp h1, hw, hk, ha, hx.1, hx.2⟩

/-- Every condition of a launch holds, whatever the draw. -/
def readyT (before : List PrefixByte) (s : State) : Bool :=
  acceptedT before s && s.outsideTypesAllowed && s.platformIdle

theorem launchReady_of {before : List PrefixByte} {s : State} (h : readyT before s = true) (d : Draws) :
    LaunchReady d before s := by
  simp only [readyT, Bool.and_eq_true] at h
  obtain ⟨⟨h1, h3⟩, h4⟩ := h
  have ha := accepted_of h1 d
  exact ⟨ha.1, ha.2, (platformReady_iff ha.1.range.base).mpr ⟨h3, h4⟩⟩

/-- The next state of a launch. -/
theorem launches {before : List PrefixByte} {s : State} (h : readyT before s = true) :
    exec (.getsecEnteraccs before) s = .next (s.launched (drawsAt s.draws) (2 + before.length)) :=
  enteraccs_of_ready (launchReady_of h _)

theorem checksPass_of {before : List PrefixByte} {s : State} (h : preLaunch before s = .pass) :
    ChecksPass before s := (preLaunch_eq_pass_iff before s).mp h

theorem available_of_gp {before : List PrefixByte} {s : State} (h : preLaunch before s = .gp) :
    LeafAvailable before s := available_of_preLaunch (.inl h)

/-- A property of the next state, false where there is none. -/
def nextHas (o : Host.Outcome State Fault Refusal) (f : State → Bool) : Bool :=
  match o with
  | .next t => f t
  | .fault _ => false
  | .refused _ => false

theorem exists_of_nextHas {o : Host.Outcome State Fault Refusal} {f : State → Bool} (h : nextHas o f = true) :
    ∃ t, o = .next t ∧ f t = true := by
  cases o with
  | next t => exact ⟨t, rfl, h⟩
  | fault e => simp [nextHas] at h
  | refused r => simp [nextHas] at h

/-! ### Two steps worked out in 95_test_vectors.md -/

/-- P1 and the first row of 3.7: what one step from S0 sets. -/
theorem test_p1_launch :
    nextHas (step stateS0) (fun t =>
      t.rip == 0x00000000001004E0#64 && t.ctrl.cr0 == 0x0000000000000033#64 &&
        t.ctrl.cr4 == 0x0000000000004020#64 && t.msr.miscEnable == 0x0000000000810088#64 &&
        t.gdtr.base == 0x00000000001004C0#64 && t.gdtr.limit == 0x0017#16 && t.seg.ds.sel == 0x0010#16) = true := by
  decide +kernel

/-- P2: what a launch from 64-bit mode with three bytes before the opcode saves. -/
theorem test_p2_saves (d : Draws) :
    (launchGprs d 5 state64).rbx = 0x0000000000401005#64 ∧ (launchGprs d 5 state64).rcx.lo = 0x007F0010#32 ∧
      (launchGprs d 5 state64).rdx = 0xFFFFF80000001000#64 ∧ (launchGprs d 5 state64).rbp.lo = 0x00100000#32 := by
  have h1 : state64.in64 = true := by decide +kernel
  have h2 : state64.inIa32e = true := by decide +kernel
  refine ⟨?_, ?_, ?_, ?_⟩
  · rw [launchGprs, savedIp, h1]
    rfl
  · rw [launchGprs, savedLimitCs, Word.lo_ofHalves]
    rfl
  · rw [launchGprs, savedGdtBase, h2]
    rfl
  · rw [launchGprs, Word.lo_ofHalves]
    rfl

/-- `IA32_MISC_ENABLE = 0000000000040001H` in 3.5, where `OTHER_THERMAL_MONITOR_ENABLED` is true of this state alone. -/
def stateThermal : State :=
  { stateS0 with
    msr := { stateS0.msr with miscEnable := 0x0000000000040001#64 }
    cfg :=
      { configT with
        otherThermalMonitorEnabled :=
          { graph := [({ msr := { stateS0.msr with miscEnable := 0x0000000000040001#64 }, unit := 1 }, true)]
            other := false } }
    thermalUnit := 1 }

/-- The two rows of 3.5 with that value: the predicate is true of the state, and false of it with another unit. -/
theorem test_other_thermal_monitor :
    nextHas (step stateThermal) (fun t => t.msr.miscEnable == 0x0000000000000000#64) = true ∧
      nextHas (step { stateThermal with thermalUnit := 0 }) (fun t => t.msr.miscEnable == 0x0000000000000008#64)
        = true := by
  decide +kernel

/-! ### Witnesses: for each obligation with hypotheses, states that meet all of them together -/

/-- The bytes at the instruction pointer of S0 are `0F 37` and zeros. -/
theorem witness_stepRunsDecodedInstruction :
    Executing stateS0 ∧
      decode stateS0.in64 stateS0.fetchBytes = .instr (.getsecEnteraccs []) (List.replicate 13 0x00#8) :=
  ⟨⟨rfl, rfl⟩, by decide +kernel⟩

theorem witness_decodeOfEncode :
    Instr.wellFormed true (.getsecEnteraccs [.seg .gs, .lock, .addrSize, .rex 0xF#4]) = true ∧
      Instr.wellFormed false (.getsecEnteraccs []) = true := by decide

/-- S0 with fourteen `66` bytes before `0F` at the instruction pointer. -/
def stateLong : State := { stateS0 with mem := ((List.range 14).map fun k => (0x7C00 + k, 0x66#8)) ++ [(0x7C0E, 0x0F#8)] }

/-- Fourteen bytes without a REX byte, and thirteen before a REX byte in 64-bit mode. -/
theorem witness_overlongInstruction :
    (14 ≤ (List.replicate 14 PrefixByte.opSize).length ∧ rexPlaced false (List.replicate 14 PrefixByte.opSize) = true) ∧
      (14 ≤ (List.replicate 13 PrefixByte.opSize ++ [PrefixByte.rex 0x8#4]).length ∧
        rexPlaced true (List.replicate 13 PrefixByte.opSize ++ [PrefixByte.rex 0x8#4]) = true) ∧
      Executing stateLong ∧ decode stateLong.in64 stateLong.fetchBytes = .tooLong :=
  ⟨⟨by decide, by decide⟩, ⟨by decide, by decide⟩, ⟨rfl, rfl⟩, by decide +kernel⟩

theorem witness_forbiddenByte :
    ∀ q ∈ [PrefixByte.lock, .repne, .rep, .opSize],
      ∃ p ∈ [PrefixByte.seg .cs, q], p = .lock ∨ p = .repne ∨ p = .rep ∨ p = .opSize := by decide

/-- `EAX = 3`, and the largest and the least value that are not 2. -/
theorem witness_otherLeaf :
    (∀ p ∈ [PrefixByte.addrSize], p ≠ .lock ∧ p ≠ .repne ∧ p ≠ .rep ∧ p ≠ .opSize) ∧
      (withInputs 0x0000000000000003#64 0#64 0#64 stateS0).gpr.rax.lo ≠ 2#32 ∧
      (withInputs 0x00000002FFFFFFFF#64 0#64 0#64 stateS0).gpr.rax.lo ≠ 2#32 ∧
      (withInputs 0x0000000200000000#64 0#64 0#64 stateS0).gpr.rax.lo ≠ 2#32 := by decide +kernel

/-- S0 with `CR4.SMXE = 0`. -/
def stateNoSmxe : State := { stateS0 with ctrl := { stateS0.ctrl with cr4 := 0x0000000000000060#64 } }

theorem witness_smxeClear : stateNoSmxe.gpr.rax.lo = 2#32 ∧ stateNoSmxe.cr4SMXE = false := by decide +kernel

/-- S0 with another VMX state. -/
def withVmx (v : Vmx) (s : State) : State := { s with vmx := v }

theorem witness_vmxNonRoot :
    (∀ p ∈ [PrefixByte.addrSize], p ≠ .lock ∧ p ≠ .repne ∧ p ≠ .rep ∧ p ≠ .opSize) ∧
      (withVmx .nonRoot stateS0).gpr.rax.lo = 2#32 ∧ (withVmx .nonRoot stateS0).cr4SMXE = true ∧
      (withVmx .nonRoot stateS0).vmx = .nonRoot := by decide +kernel

/-- Configuration T without the leaf. -/
def stateNoLeaf : State := withCfg { configT with enteraccsSupported := false } stateS0

theorem witness_unsupportedLeaf :
    stateNoLeaf.gpr.rax.lo = 2#32 ∧ stateNoLeaf.cr4SMXE = true ∧ stateNoLeaf.vmx ≠ .nonRoot ∧
      stateNoLeaf.cfg.enteraccsSupported = false := by decide +kernel

/-- S0 with other flags. -/
def withEflags (w : Half) (s : State) : State := { s with eflags := w }

/-- S0 with another `CS` selector. -/
def withCs (w : BitVec 16) (s : State) : State := { s with seg := { s.seg with cs := { s.seg.cs with sel := w } } }

/-- S0 on a processor that is not the BSP. -/
def stateAp : State := { stateS0 with msr := { stateS0.msr with apicBase := 0x00000000FEE00800#64 } }

/-- S0 in authenticated code execution mode. -/
def stateAc : State :=
  { stateS0 with
    acModeFlag := true
    masks := allPins
    chipset := { processorHold := true, privateOpen := true, locality3Open := true } }

/-- S0 in SMM. -/
def stateSmm : State := { stateS0 with inSmm := true }

/-- The eleven conditions of R125, one state each (3.3 of 95_test_vectors.md); `CPL` at 1 and 3. -/
theorem witness_modeCondition :
    (LeafAvailable [] (withVmx .root stateS0) ∧ (withVmx .root stateS0).vmx = .root) ∧
      (LeafAvailable [] (withCr0 0x32#64 stateS0) ∧ (withCr0 0x32#64 stateS0).cr0PE = false) ∧
      (LeafAvailable [] (withCr0 0x40000033#64 stateS0) ∧ (withCr0 0x40000033#64 stateS0).cr0CD = true) ∧
      (LeafAvailable [] (withCr0 0x20000033#64 stateS0) ∧ (withCr0 0x20000033#64 stateS0).cr0NW = true) ∧
      (LeafAvailable [] (withCr0 0x13#64 stateS0) ∧ (withCr0 0x13#64 stateS0).cr0NE = false) ∧
      (LeafAvailable [] (withCs 0x0009#16 stateS0) ∧ 0 < (withCs 0x0009#16 stateS0).cpl) ∧
      (LeafAvailable [] (withCs 0x001B#16 stateS0) ∧ 0 < (withCs 0x001B#16 stateS0).cpl) ∧
      (LeafAvailable [] (withEflags 0x20002#32 stateS0) ∧ (withEflags 0x20002#32 stateS0).flag .vm = true) ∧
      (LeafAvailable [] stateAp ∧ stateAp.bsp = false) ∧
      (LeafAvailable [] (withCfg { configT with txtChipsetPresent := false } stateS0) ∧
        (withCfg { configT with txtChipsetPresent := false } stateS0).cfg.txtChipsetPresent = false) ∧
      (LeafAvailable [] stateAc ∧ stateAc.acModeFlag = true) ∧ LeafAvailable [] stateSmm ∧ stateSmm.inSmm = true := by
  refine ⟨⟨?_, ?_⟩, ⟨?_, ?_⟩, ⟨?_, ?_⟩, ⟨?_, ?_⟩, ⟨?_, ?_⟩, ⟨?_, ?_⟩, ⟨?_, ?_⟩, ⟨?_, ?_⟩, ⟨?_, ?_⟩, ⟨?_, ?_⟩, ⟨?_, ?_⟩,
    ?_, ?_⟩
  all_goals first | exact available_of_gp (by decide +kernel) | decide +kernel

/-- S0 with an uncorrectable error in one bank. -/
def stateBank (banks : List Word) (entry : Option Bool) : State :=
  { withCfg { configT with mcaHandlingEntry := entry } stateS0 with
    msr := { stateS0.msr with mcStatus := banks } }

/-- The first and the last of four banks; an entry that says 0, and none. -/
theorem witness_uncorrectableError :
    (LeafAvailable [] (stateBank [0xA000000000000000#64] (some false)) ∧
        0 < (stateBank [0xA000000000000000#64] (some false)).mcBankCount ∧
        (stateBank [0xA000000000000000#64] (some false)).cfg.isUncorrectable 0xA000000000000000#64 = true) ∧
      LeafAvailable [] (stateBank [0#64, 0#64, 0#64, 0xA000000000000000#64] none) ∧
      3 < (stateBank [0#64, 0#64, 0#64, 0xA000000000000000#64] none).mcBankCount ∧
      (stateBank [0#64, 0#64, 0#64, 0xA000000000000000#64] none).cfg.isUncorrectable
        ((stateBank [0#64, 0#64, 0#64, 0xA000000000000000#64] none).mcStatus 3) = true := by
  refine ⟨⟨?_, ?_, ?_⟩, ?_, ?_, ?_⟩
  all_goals first | exact available_of_gp (by decide +kernel) | decide +kernel

/-- S0 with `MCIP = 1`. -/
def stateMcip : State := { stateS0 with msr := { stateS0.msr with mcgStatus := 0x4#64 } }

/-- S0 with `IERR` asserted. -/
def stateIerr : State := { stateS0 with ierr := true }

theorem witness_machineCheck :
    (LeafAvailable [] stateMcip ∧ stateMcip.mcip = true) ∧ LeafAvailable [] stateIerr ∧ stateIerr.ierr = true := by
  refine ⟨⟨?_, ?_⟩, ?_, ?_⟩
  all_goals first | exact available_of_gp (by decide +kernel) | decide +kernel

/-- S0 with another base and size. -/
def stateAt (base size : Word) : State := withInputs 2#64 base size stateS0

/-- The clauses (a) to (e) of R129, at the values of 3.4. -/
theorem witness_baseOrSize :
    (LeafAvailable [] (stateAt 0x00100800#64 0x1000#64) ∧ (stateAt 0x00100800#64 0x1000#64).acBase % 4096 ≠ 0) ∧
      (LeafAvailable [] (stateAt 0x00100000#64 0x1020#64) ∧ (stateAt 0x00100000#64 0x1020#64).acSize % 64 ≠ 0) ∧
      (LeafAvailable [] (stateAt 0x00100000#64 0x3C0#64) ∧
        (stateAt 0x00100000#64 0x3C0#64).acSize < configT.minModuleSize) ∧
      (LeafAvailable [] (stateAt 0x00100000#64 0x8040#64) ∧
        configT.acramCapacity < (stateAt 0x00100000#64 0x8040#64).acSize) ∧
      LeafAvailable [] (stateAt 0xFFFFF000#64 0x1000#64) ∧
      2 ^ 32 - 1 < (stateAt 0xFFFFF000#64 0x1000#64).acBase + (stateAt 0xFFFFF000#64 0x1000#64).acSize := by
  refine ⟨⟨?_, ?_⟩, ⟨?_, ?_⟩, ⟨?_, ?_⟩, ⟨?_, ?_⟩, ?_, ?_⟩
  all_goals first | exact available_of_gp (by decide +kernel) | decide +kernel

theorem witness_busySecondary :
    LeafAvailable [] (withRlps [rlpT .waitForSipi true] stateS0) ∧
      LeafAvailable [] (withRlps [rlpT .running false] stateS0) ∧
      LeafAvailable [] (withRlps [rlpT .senterSleep false, rlpT .other false] stateS0) := by
  refine ⟨?_, ?_, ?_⟩
  all_goals exact available_of_gp (by decide +kernel)

theorem witness_refusedLaunch :
    stateAc.status = .running ∧
      (∃ t, exec (.getsecEnteraccs []) stateAc = .next t ∧ t.status = .exception (.gp 0#32)) ∧
      ∃ t, exec (.getsecEnteraccs []) (withVmx .nonRoot stateS0) = .next t ∧ t.status = .vmExit 11 := by
  refine ⟨rfl, ?_, ?_⟩
  · obtain ⟨t, h, ht⟩ := exists_of_nextHas (o := exec (.getsecEnteraccs []) stateAc)
      (f := fun t => t.status == .exception (.gp 0#32)) (by decide +kernel)
    exact ⟨t, h, by simpa using ht⟩
  · obtain ⟨t, h, ht⟩ := exists_of_nextHas (o := exec (.getsecEnteraccs []) (withVmx .nonRoot stateS0))
      (f := fun t => t.status == .vmExit 11) (by decide +kernel)
    exact ⟨t, h, by simpa using ht⟩

theorem ready_S0 : readyT [] stateS0 = true := by decide +kernel

theorem witness_fiveOutcomes :
    stateS0.status = .running ∧ stateS0.gpr.rax.lo = 2#32 ∧ PlatformReady stateS0 :=
  ⟨rfl, by decide +kernel, (launchReady_of ready_S0 (drawT false)).platform⟩

/-- For every statement about a launch, and about a next state past the `#GP(0)` checks: S0 itself. -/
theorem witness_launch :
    stateS0.status = .running ∧ LaunchReady (drawsAt stateS0.draws) [] stateS0 ∧
      ∃ t, exec (.getsecEnteraccs []) stateS0 = .next t ∧ t.status = .running :=
  ⟨rfl, launchReady_of ready_S0 _, _, launches ready_S0, rfl⟩

/-- The three entry modes of 3.7, with a REX byte in 64-bit mode, and other idle processors. -/
theorem witness_launchModes :
    (LaunchReady (drawsAt 0) [.seg .cs] stateCompat ∧ stateCompat.in64 = false ∧ stateCompat.inIa32e = true) ∧
      (LaunchReady (drawsAt 0) [.seg .cs, .addrSize, .rex 0x8#4] state64 ∧ state64.in64 = true) ∧
      stateS0.inIa32e = false ∧
      LaunchReady (drawsAt 0) []
        (withRlps [rlpT .waitForSipi false, { rlpT .senterSleep true with samePackage := false }] stateS0) :=
  ⟨⟨launchReady_of (by decide +kernel) _, by decide +kernel, by decide +kernel⟩,
    ⟨launchReady_of (by decide +kernel) _, by decide +kernel⟩, by decide +kernel, launchReady_of (by decide +kernel) _⟩

/-- S0 where a page of the allocation is not `WB`: the second page of a module of 1040H bytes. -/
def stateUc : State := stateAt 0x00100000#64 0x1040#64

/-- The last address of the allocation. -/
theorem witness_nonWriteBack :
    ChecksPass [] stateUc ∧ stateUc.acBase ≤ 0x101FFF ∧
      0x101FFF < stateUc.acBase + 4096 * ((stateUc.acSize + 4095) / 4096) ∧ stateUc.memTypeOf 0x101FFF ≠ .wb :=
  ⟨checksPass_of (by decide +kernel), by decide +kernel, by decide +kernel, by decide +kernel⟩

theorem wb_S0 : AcramWriteBack stateS0 := (authenticT_spec (s := stateS0) (by decide +kernel) (drawT false)).2.2.1

/-- `ModuleType = 1`; `HeaderVersion = 00030000H`. -/
theorem witness_unsupportedModule :
    (ChecksPass [] (withByte 0x100000 0x01#8 stateS0) ∧ AcramWriteBack (withByte 0x100000 0x01#8 stateS0) ∧
        ((withByte 0x100000 0x01#8 stateS0).loadedHeader (drawT true)).moduleType ≠ 2) ∧
      ChecksPass [] (withByte 0x10000A 0x03#8 stateS0) ∧ AcramWriteBack (withByte 0x10000A 0x03#8 stateS0) ∧
      ((withByte 0x10000A 0x03#8 stateS0).loadedHeader (drawT true)).version ∉
        (withByte 0x10000A 0x03#8 stateS0).cfg.supportedHeaderVersions :=
  ⟨⟨checksPass_of (by decide +kernel), wb_S0, by decide +kernel⟩, checksPass_of (by decide +kernel), wb_S0,
    by decide +kernel⟩

/-- A chipset that holds another key hash; a module hash that differs from the signature. -/
theorem witness_unauthenticModule :
    (ChecksPass [] (withCfg { configT with txtPublicKey := [0x01#8] } stateS0) ∧
        KindAccepted configT ((withCfg { configT with txtPublicKey := [0x01#8] } stateS0).loadedHeader (drawT false)) ∧
        ¬ ModuleAuthentic (drawT false) (withCfg { configT with txtPublicKey := [0x01#8] } stateS0)) ∧
      ChecksPass [] (withCfg { configT with hashModule := constantly [0x01#8] } stateS0) ∧
      ¬ ModuleAuthentic (drawT false) (withCfg { configT with hashModule := constantly [0x01#8] } stateS0) := by
  refine ⟨⟨checksPass_of (by decide +kernel), (kindSupported_iff _ _).mp (by decide +kernel), ?_⟩,
    checksPass_of (by decide +kernel), ?_⟩
  all_goals
    rw [ModuleAuthentic, Bool.not_eq_true]
    decide +kernel

/-- S0 with the low byte of `CodeControl` set. -/
def stateControl (v : Byte) : State := withByte 0x100020 v stateS0

/-- Everything up to authentication passes. -/
theorem untilAuthentic_of {s : State} (h : preLaunch [] s = .pass) (ha : authenticT s = true) (d : Draws) :
    ChecksPass [] s ∧ AcramWriteBack s ∧ KindAccepted s.cfg (s.loadedHeader d) ∧ ModuleAuthentic d s :=
  ⟨checksPass_of h, (authenticT_spec ha d).2.2⟩

/-- `CodeControl = 2` with a snoop hit. -/
theorem witness_unexpectedSnoopHit :
    (ChecksPass [] (stateControl 0x02#8) ∧ AcramWriteBack (stateControl 0x02#8) ∧
        KindAccepted (stateControl 0x02#8).cfg ((stateControl 0x02#8).loadedHeader (drawT true)) ∧
        ModuleAuthentic (drawT true) (stateControl 0x02#8)) ∧
      ((stateControl 0x02#8).finalHeader (drawT true)).codeControl.testBit 0 = false ∧
      ((stateControl 0x02#8).finalHeader (drawT true)).codeControl.testBit 1 = true ∧ (drawT true).hitm = true :=
  ⟨untilAuthentic_of (by decide +kernel) (by decide +kernel) _, by decide +kernel, by decide +kernel, rfl⟩

/-- A state is past authentication, and no snoop hit is unexpected in it. -/
def pastAuthenticT (hitm : Bool) (s : State) : Bool :=
  preLaunch [] s == .pass && authenticT s && !hitmUnexpected (s.finalHeader (drawT hitm)) hitm

theorem pastAuthentic_of {hitm : Bool} {s : State} (h : pastAuthenticT hitm s = true) :
    ChecksPass [] s ∧ AcramWriteBack s ∧ KindAccepted s.cfg (s.loadedHeader (drawT hitm)) ∧
      ModuleAuthentic (drawT hitm) s ∧ ¬ HitmUnexpected (s.finalHeader (drawT hitm)) hitm := by
  simp only [pastAuthenticT, Bool.and_eq_true, Bool.not_eq_true', beq_iff_eq] at h
  have hu := untilAuthentic_of h.1.1 h.1.2 (drawT hitm)
  exact ⟨hu.1, hu.2.1, hu.2.2.1, hu.2.2.2, fun g => by simp [(hitmUnexpected_eq_true_iff _ _).mpr g] at h⟩

/-- `CodeControl = 4`; `GDTBasePtr = 4BFH`; `GDTBasePtr = FE9H`; `GDTLimit = 00010017H` (3.6). -/
theorem witness_malformedHeader :
    (pastAuthenticT true (stateControl 0x04#8) = true ∧
        ((stateControl 0x04#8).finalHeader (drawT true)).codeControl &&& configT.reservedControl ≠ 0) ∧
      (pastAuthenticT true (withByte 0x10002C 0xBF#8 stateS0) = true ∧
        ((withByte 0x10002C 0xBF#8 stateS0).finalHeader (drawT true)).gdtBasePtr < 0xA1 * 4 + 0x23C) ∧
      (pastAuthenticT true (withByte 0x10002D 0x0F#8 (withByte 0x10002C 0xE9#8 stateS0)) = true ∧
        0x1000 ≤ ((withByte 0x10002D 0x0F#8 (withByte 0x10002C 0xE9#8 stateS0)).finalHeader (drawT true)).gdtBasePtr
          + 0x17) ∧
      pastAuthenticT true (withByte 0x10002A 0x01#8 stateS0) = true ∧
      ((withByte 0x10002A 0x01#8 stateS0).finalHeader (drawT true)).gdtLimit &&& 0xFFFF0000 ≠ 0 := by
  decide +kernel

/-- `EntryPoint = 1000H`; `EntryPoint = 4BFH`; `ErrorEntryPoint` out of range and selected; `GDTLimit = 16H`;
`SegSel = 0`; `SegSel = 0CH`; `SegSel = 09H` (3.6). -/
theorem witness_badEntryOrSelector :
    (pastAuthenticT false (withByte 0x100035 0x10#8 (withByte 0x100034 0x00#8 stateS0)) = true ∧
        0x1000 ≤ entryOffset
          ((withByte 0x100035 0x10#8 (withByte 0x100034 0x00#8 stateS0)).finalHeader (drawT false)) false) ∧
      (pastAuthenticT false (withByte 0x100034 0xBF#8 stateS0) = true ∧
        entryOffset ((withByte 0x100034 0xBF#8 stateS0).finalHeader (drawT false)) false < 0x4C0) ∧
      (pastAuthenticT true (withByte 0x100025 0x00#8 (stateControl 0x03#8)) = true ∧
        entryOffset ((withByte 0x100025 0x00#8 (stateControl 0x03#8)).finalHeader (drawT true)) true < 0x4C0) ∧
      (pastAuthenticT false (withByte 0x100028 0x16#8 stateS0) = true ∧
        (((withByte 0x100028 0x16#8 stateS0).finalHeader (drawT false)).gdtLimit : Int) - 15 < (8 : Int)) ∧
      (pastAuthenticT false (withByte 0x100030 0x00#8 stateS0) = true ∧
        ((withByte 0x100030 0x00#8 stateS0).finalHeader (drawT false)).segSel < 8) ∧
      (pastAuthenticT false (withByte 0x100030 0x0C#8 stateS0) = true ∧
        ((withByte 0x100030 0x0C#8 stateS0).finalHeader (drawT false)).segSel.testBit 2 = true) ∧
      pastAuthenticT false (withByte 0x100030 0x09#8 stateS0) = true ∧
      ((withByte 0x100030 0x09#8 stateS0).finalHeader (drawT false)).segSel % 4 ≠ 0 := by
  decide +kernel

/-- Each of the five names is reached (3.6). -/
theorem witness_shutdownNames :
    nextHas (enteraccs (drawT false) [] stateUc) (fun t => t.status == .txtShutdown .badACMMType 1) = true ∧
      nextHas (enteraccs (drawT false) [] (withByte 0x100000 0x01#8 stateS0))
        (fun t => t.status == .txtShutdown .unsupportedACM 2) = true ∧
      nextHas (enteraccs (drawT false) [] (withCfg { configT with txtPublicKey := [0x01#8] } stateS0))
        (fun t => t.status == .txtShutdown .authenticateFail 3) = true ∧
      nextHas (enteraccs (drawT true) [] (stateControl 0x06#8))
        (fun t => t.status == .txtShutdown .unexpectedHITM 4) = true ∧
      nextHas (enteraccs (drawT false) [] (withByte 0x100030 0x10#8 stateS0))
        (fun t => t.status == .txtShutdown .badACMFormat 5) = true := by
  decide +kernel

/-- The platform is ready in a state for every clause of the first-failing-line statement. -/
theorem witness_firstFailingLine :
    ∀ s ∈ [stateS0, stateNoSmxe, withVmx .nonRoot stateS0, stateNoLeaf, stateAc, stateUc,
        withByte 0x100000 0x01#8 stateS0, withCfg { configT with txtPublicKey := [0x01#8] } stateS0,
        stateControl 0x06#8, withByte 0x100030 0x10#8 stateS0],
      s.status = .running ∧ s.gpr.rax.lo = 2#32 ∧ PlatformReady s := by
  have key : ∀ s ∈ [stateS0, stateNoSmxe, withVmx .nonRoot stateS0, stateNoLeaf, stateAc, stateUc,
        withByte 0x100000 0x01#8 stateS0, withCfg { configT with txtPublicKey := [0x01#8] } stateS0,
        stateControl 0x06#8, withByte 0x100030 0x10#8 stateS0],
      s.status = .running ∧ s.gpr.rax.lo = 2#32 ∧ s.acBase % 4096 = 0 ∧ s.outsideTypesAllowed = true ∧
        s.platformIdle = true := by
    simp only [List.forall_mem_cons]
    decide +kernel
  exact fun s hs => ⟨(key s hs).1, (key s hs).2.1, (platformReady_iff (key s hs).2.2.1).mpr (key s hs).2.2.2⟩

/-- Program P5, through `exec`. -/
theorem witness_shutdownState :
    ∃ t, exec (.getsecEnteraccs []) (withByte 0x100030 0x10#8 stateS0) = .next t ∧
      t.status = .txtShutdown .badACMFormat 5 := by
  obtain ⟨t, h, ht⟩ := exists_of_nextHas (o := exec (.getsecEnteraccs []) (withByte 0x100030 0x10#8 stateS0))
    (f := fun t => t.status == .txtShutdown .badACMFormat 5) (by decide +kernel)
  exact ⟨t, h, by simpa using ht⟩

/-- S0 with another memory type everywhere else. -/
def stateWtElsewhere : State := { stateS0 with memTypes := { stateS0.memTypes with default := .other 0x04#8 } }

/-- S0 with a running processor in another package that is not enabled: R254 exempts none. -/
def stateBusyPackage : State :=
  withRlps [{ rlpT .running false with
              samePackage := false
              enabled := false }] stateS0

theorem witness_unreadyPlatform :
    (ChecksPass [] stateWtElsewhere ∧ ModuleAccepted (drawsAt 0) stateWtElsewhere ∧ ¬ PlatformReady stateWtElsewhere) ∧
      ChecksPass [] stateBusyPackage ∧ ModuleAccepted (drawsAt 0) stateBusyPackage ∧
      ¬ PlatformReady stateBusyPackage := by
  have h1 : acceptedT [] stateWtElsewhere = true := by decide +kernel
  have h2 : acceptedT [] stateBusyPackage = true := by decide +kernel
  refine ⟨⟨(accepted_of h1 (drawsAt 0)).1, (accepted_of h1 _).2, ?_⟩, (accepted_of h2 (drawsAt 0)).1,
    (accepted_of h2 _).2, ?_⟩
  · rw [platformReady_iff (accepted_of h1 (drawT false)).1.range.base]
    decide +kernel
  · rw [platformReady_iff (accepted_of h2 (drawT false)).1.range.base]
    decide +kernel

/-- S0 with a module of FC0H bytes, so that ACRAM has a pad: the first and the last byte of the scratch area and of the
pad. -/
theorem witness_freeValues :
    LaunchReady (drawsAt 0) [] (stateAt 0x00100000#64 0xFC0#64) ∧
      (stateAt 0x00100000#64 0xFC0#64).in64 = false ∧ (stateAt 0x00100000#64 0xFC0#64).inIa32e = false ∧
      acramAlloc (stateAt 0x00100000#64 0xFC0#64).acSize = 0x1000 ∧
      ((stateAt 0x00100000#64 0xFC0#64).loadedHeader (drawT true)).headerLen * 4 = 0x284 ∧
      ((stateAt 0x00100000#64 0xFC0#64).loadedHeader (drawT true)).scratchSize = 0x23C :=
  ⟨launchReady_of (by decide +kernel) _, by decide +kernel, by decide +kernel, by decide +kernel, by decide +kernel,
    by decide +kernel⟩

/-- A field that ends where the scratch area begins, and one that begins where it ends. -/
theorem witness_headerField :
    (0x280 + 4 ≤ stateS0.acSize ∧ 0x280 + 4 ≤ (stateS0.loadedHeader (drawT true)).headerLen * 4) ∧
      0xFFC + 4 ≤ stateS0.acSize ∧
      (stateS0.loadedHeader (drawT true)).headerLen * 4 + (stateS0.loadedHeader (drawT true)).scratchSize ≤ 0x4C0 := by
  decide +kernel

/-- The first and the last byte from the entry point to the end of the allocation. -/
theorem witness_nextFetch :
    ((stateS0.launched (drawsAt 0) 2).rip.toNat - (stateS0.launched (drawsAt 0) 2).acram.base + 0 <
        (stateS0.launched (drawsAt 0) 2).acram.bytes.length) ∧
      (stateS0.launched (drawsAt 0) 2).rip.toNat - (stateS0.launched (drawsAt 0) 2).acram.base + 0xB1F <
        (stateS0.launched (drawsAt 0) 2).acram.bytes.length := by
  decide +kernel

/-- A state that ended in each of the ways, before and after the reload of `IDTR`. -/
theorem witness_endedExecution :
    (stateS0.takeException .ud).status = .exception .ud ∧ (stateS0.takeException .ud).idtStale = false ∧
      ({ stateS0.takeException .ud with idtStale := true } : State).status = .exception .ud ∧
      stateS0.takeVmExit.status = .vmExit 11 ∧
      (stateS0.txtShutdown .badACMFormat).status = .txtShutdown .badACMFormat 5 :=
  ⟨rfl, rfl, rfl, rfl, rfl⟩

/-- A step that has a next state and opens the chipset's private space. -/
theorem witness_step :
    ∃ t, step stateS0 = .next t ∧ stateS0.chipset.privateOpen = false ∧ t.chipset.privateOpen = true := by
  obtain ⟨t, h, ht⟩ := exists_of_nextHas (o := step stateS0) (f := fun t => t.chipset.privateOpen) (by decide +kernel)
  exact ⟨t, h, rfl, ht⟩

/-- S0 in authenticated code execution mode, ACRAM mapped on a whole block. -/
def stateMapped : State :=
  { stateAc with acram := { mapped := true, base := 0x200000, bytes := List.replicate 4096 0x00#8 } }

theorem witness_invariants :
    stateMapped.acModeFlag = true ∧ MemCanonical stateMapped ∧ AcModeInv stateMapped ∧ AcramGeometry stateMapped ∧
      ∃ t, step stateMapped = .next t ∧ t.status = .exception (.gp 0#32) := by
  refine ⟨rfl, ?_, ?_, ?_, ?_⟩
  · show Memory.wf memM1 = true
    decide
  · constructor <;> intro _ <;> rfl
  · constructor <;> intro _ <;> decide +kernel
  · obtain ⟨t, h, ht⟩ := exists_of_nextHas (o := step stateMapped)
      (f := fun t => t.status == .exception (.gp 0#32)) (by decide +kernel)
    exact ⟨t, h, by simpa using ht⟩

/-- `RBX = 0000000500100000H` and other upper halves; S0 launches, and S0 in authenticated code execution mode ends in
`#GP(0)`. -/
theorem witness_upperHalves :
    Word.lo 0xFFFFFFFF00000002#64 = stateS0.gpr.rax.lo ∧ Word.lo 0x0000000500100000#64 = stateS0.gpr.rbx.lo ∧
      Word.lo 0x8000000000001000#64 = stateS0.gpr.rcx.lo := by decide +kernel

/-- S0 with four transactions under way, two of them stores to one address. -/
def stateQueued : State :=
  { stateS0 with outgoing := [.store 0x7C00 0x01#8, .io 0x0080#16 0#32, .store 0x7C00 0x02#8,
      .store 0x100000 0x02#8] }

/-- And one to the first byte of the module. -/
theorem witness_ownStores :
    MemCanonical stateQueued ∧ 0 < stateQueued.acSize ∧
      newestStore (stateQueued.acBase + 0) stateQueued.outgoing = some 0x02#8 ∧ newestStore 0x7C00 stateQueued.outgoing = some 0x02#8 ∧
      newestStore 0x7C01 stateQueued.outgoing = none :=
  ⟨show Memory.wf memM1 = true by decide, by decide +kernel, by decide +kernel, by decide, by decide⟩

theorem witness_hold : stateAc.chipset.processorHold = true ∧ stateS0.chipset.processorHold = false ∧
    ∃ t, step stateAc = .next t := by
  obtain ⟨t, h, -⟩ := exists_of_nextHas (o := step stateAc) (f := fun _ => true) (by decide +kernel)
  exact ⟨rfl, rfl, t, h⟩

theorem witness_maskedPin :
    (∀ p, pinBit stateAc.masks p = true) ∧ pinBit stateAc.cfg.maskedEventLatched .nmi = true ∧
      pinBit stateAc.cfg.maskedEventLatched .smi = false := by
  refine ⟨fun p => by cases p <;> rfl, rfl, rfl⟩

end Sys2Proof.Tests
end

section
/-! PROOF. No step writes the parameters or the state the leaf only reads (R53). -/

namespace Sys2Proof.Machine

/-- Every next state of a step: an exception or the VM exit of the state it is taken in, a TXT shutdown of what the load
or authentication left, or the launch; the free values are those of the state's next draw. -/
theorem step_next_cases {s t : State} (h : step s = .next t) :
    (∃ e, t = s.takeException e) ∨ t = s.takeVmExit ∨
      (∃ e, t = (s.loaded (drawsAt s.draws)).txtShutdown e) ∨
      (∃ e, t = (s.authenticated (drawsAt s.draws)).txtShutdown e) ∨
      ∃ len, t = s.launched (drawsAt s.draws) len := by
  obtain ⟨-, ⟨⟨before⟩, -, -, hexec⟩ | ⟨-, htooLong⟩⟩ := step_cases h
  · rw [exec_getsecEnteraccs] at hexec
    obtain hud | hexit | hgp | ⟨-, e, -, hloaded⟩ | ⟨-, -, e, -, hauth⟩ | ⟨-, hlaunched⟩ := enteraccs_cases hexec
    · exact .inl ⟨_, hud⟩
    · exact .inr (.inl hexit)
    · exact .inl ⟨_, hgp⟩
    · exact .inr (.inr (.inl ⟨e, hloaded⟩))
    · exact .inr (.inr (.inr (.inl ⟨e, hauth⟩)))
    · exact .inr (.inr (.inr (.inr ⟨_, hlaunched⟩)))
  · exact .inl ⟨_, htooLong⟩

/-- `t` holds the parameters (R53) and the state the leaf only reads as `s` holds them. -/
structure InputsKept (s t : State) : Prop where
  cfg : t.cfg = s.cfg
  thermalUnit : t.thermalUnit = s.thermalUnit
  rax : t.gpr.rax = s.gpr.rax
  rlps : t.rlps = s.rlps
  memTypes : t.memTypes = s.memTypes
  idtr : t.idtr = s.idtr
  apicBase : t.msr.apicBase = s.msr.apicBase
  mcgCap : t.msr.mcgCap = s.msr.mcgCap
  mcgStatus : t.msr.mcgStatus = s.msr.mcgStatus
  mcStatus : t.msr.mcStatus = s.msr.mcStatus
  inSmm : t.inSmm = s.inSmm
  vmx : t.vmx = s.vmx
  ierr : t.ierr = s.ierr

theorem inputsKept_takeException (e : Exc) (s : State) : InputsKept s (s.takeException e) := by
  constructor <;> simp

theorem inputsKept_takeVmExit (s : State) : InputsKept s s.takeVmExit := by
  constructor <;> simp

/-- Of the MSRs preparation writes `IA32_MISC_ENABLE` and `IA32_DEBUGCTL` alone (R151, R152). -/
theorem inputsKept_loaded_txtShutdown (d : Draws) (e : TxtError) (s : State) :
    InputsKept s ((s.loaded d).txtShutdown e) := by
  constructor <;> simp [preparedMsrs]

theorem inputsKept_authenticated_txtShutdown (d : Draws) (e : TxtError) (s : State) :
    InputsKept s ((s.authenticated d).txtShutdown e) := by
  constructor <;> simp [preparedMsrs]

/-- The launch adds `IA32_EFER` (R185), and of the general registers writes `RBX`, `RCX`, `RDX` and `RBP`
(R186 to R189). -/
theorem inputsKept_launched (d : Draws) (len : Nat) (s : State) : InputsKept s (s.launched d len) := by
  constructor <;> simp [preparedMsrs, launchMsrs, launchGprs]

theorem inputsKept_of_step {s t : State} (h : step s = .next t) : InputsKept s t := by
  obtain ⟨e, rfl⟩ | rfl | ⟨e, rfl⟩ | ⟨e, rfl⟩ | ⟨len, rfl⟩ := step_next_cases h
  · exact inputsKept_takeException e s
  · exact inputsKept_takeVmExit s
  · exact inputsKept_loaded_txtShutdown _ e s
  · exact inputsKept_authenticated_txtShutdown _ e s
  · exact inputsKept_launched _ len s

/-- Settles O46: each end a step can have keeps every one of the fields (R53). -/
theorem parametersAndInputsAreNeverWritten : Obligations.ParametersAndInputsAreNeverWritten := by
  intro s t h
  have k := inputsKept_of_step h
  exact ⟨k.cfg, congrArg Config.otherThermalMonitorEnabled k.cfg, k.thermalUnit, k.rax, k.rlps, k.memTypes, k.idtr,
    k.apicBase, k.mcgCap, k.mcgStatus, k.mcStatus, k.inSmm, k.vmx, k.ierr⟩

end Sys2Proof.Machine
end

section
/-! PROOF. The processor hold: what it blocks, that no step lifts it, and that no agent reaches ACRAM (R80, R154, R78). -/

namespace Sys2Proof.Machine

/-! ### What an access of another agent does -/

theorem agentAccess_of_blocked {x : AgentAccess} {s : State} (h : x.isBlocked s = true) : agentAccess x s = none :=
  if_pos h

theorem agentAccess_of_not_blocked {x : AgentAccess} {s : State} (h : x.isBlocked s = false) :
    agentAccess x s = some (x.perform s) := by
  simp [agentAccess, h]

/-- An access that answers a state was let through. -/
theorem eq_perform_of_agentAccess {x : AgentAccess} {s t : State} (h : agentAccess x s = some t) : t = x.perform s := by
  cases hb : x.isBlocked s with
  | true => simp [agentAccess_of_blocked hb] at h
  | false => simpa [agentAccess_of_not_blocked hb] using h.symm

/-- Without the hold no kind of access is blocked (log 23). -/
theorem isBlocked_of_no_hold (x : AgentAccess) {s : State} (h : s.chipset.processorHold = false) :
    x.isBlocked s = false := by
  cases x with
  | read | write | io => exact h
  | implicitWriteBack => rfl

/-- ACRAM is isolated from the other agents (R78, R154). -/
@[simp] theorem AgentAccess.perform_acram (x : AgentAccess) (s : State) : (x.perform s).acram = s.acram := by
  cases x <;> rfl

/-! ### No step lifts the hold -/

/-- An exception and the VM exit leave the chipset as it is; every other end comes after the message `ProcessorHold`
(R153). -/
theorem processorHold_of_step {s t : State} (hold : s.chipset.processorHold = true) (h : step s = .next t) :
    t.chipset.processorHold = true := by
  obtain ⟨e, rfl⟩ | rfl | ⟨e, rfl⟩ | ⟨e, rfl⟩ | ⟨len, rfl⟩ := step_next_cases h
  · rwa [State.takeException_chipset]
  · rwa [State.takeVmExit_chipset]
  · rw [State.txtShutdown_chipset, State.loaded_chipset]
  · rw [State.txtShutdown_chipset, State.authenticated_chipset]
  · rw [State.launched_chipset]

/-- Settles O57: the hold blocks the three kinds of access R80 names, and each end a step can have keeps it. -/
theorem holdBlocksOtherAgents : Obligations.HoldBlocksOtherAgents := by
  refine ⟨fun s a v p w hold => ⟨?_, ?_, ?_, ?_⟩, fun s x hnone => ?_, fun s t hold h => processorHold_of_step hold h,
    fun s t x h => ?_⟩
  · exact agentAccess_of_blocked (x := .read a) hold
  · exact agentAccess_of_blocked (x := .write a v) hold
  · exact agentAccess_of_blocked (x := .io p w) hold
  · exact ⟨_, agentAccess_of_not_blocked (x := .implicitWriteBack a v) rfl⟩
  · exact ⟨_, agentAccess_of_not_blocked (isBlocked_of_no_hold x hnone)⟩
  · rw [eq_perform_of_agentAccess h, AgentAccess.perform_acram]

end Sys2Proof.Machine
end

section
/-! PROOF. The checks before any state changes: the outcome each of lines 0 to 8 of R120 gives when it fails. -/

namespace Sys2Proof.Machine

/-! ### What lines 0 to 3 decide -/

theorem preLaunch_of_carriesForbidden {before : List PrefixByte} {s : State} (h : carriesForbidden before = true) :
    preLaunch before s = .ud :=
  if_pos h

/-- Line 1 (R122). A forbidden byte before it (R106) has the same outcome, so none need be excluded. -/
theorem preLaunch_of_smxe_clear (before : List PrefixByte) {s : State} (leaf : s.eax = 2#32)
    (smxe : s.cr4SMXE = false) : preLaunch before s = .ud := by
  cases hf : carriesForbidden before with
  | true => exact preLaunch_of_carriesForbidden hf
  | false => simp [preLaunch, hf, leaf, enteraccsLeaf, smxe]

/-- Line 2 (R123). -/
theorem preLaunch_of_nonRoot {before : List PrefixByte} {s : State} (allowed : carriesForbidden before = false)
    (leaf : s.eax = 2#32) (smxe : s.cr4SMXE = true) (nonRoot : s.vmx = .nonRoot) : preLaunch before s = .vmExit := by
  simp [preLaunch, allowed, leaf, enteraccsLeaf, smxe, nonRoot]

/-- Line 3 (R124). A forbidden byte before it (R106) has the same outcome, so none need be excluded. -/
theorem preLaunch_of_unsupported (before : List PrefixByte) {s : State} (leaf : s.eax = 2#32)
    (smxe : s.cr4SMXE = true) (notNonRoot : s.vmx ≠ .nonRoot) (unsupported : s.cfg.enteraccsSupported = false) :
    preLaunch before s = .ud := by
  cases hf : carriesForbidden before with
  | true => exact preLaunch_of_carriesForbidden hf
  | false => simp [preLaunch, hf, leaf, enteraccsLeaf, smxe, notNonRoot, unsupported]

/-! ### What the leaf answers when a check fails -/

theorem exec_of_preLaunch_ud {before : List PrefixByte} {s : State} (h : preLaunch before s = .ud) :
    exec (.getsecEnteraccs before) s = .next (s.takeException .ud) := by
  rw [exec_getsecEnteraccs, enteraccs, h]

theorem exec_of_preLaunch_vmExit {before : List PrefixByte} {s : State} (h : preLaunch before s = .vmExit) :
    exec (.getsecEnteraccs before) s = .next s.takeVmExit := by
  rw [exec_getsecEnteraccs, enteraccs, h]

theorem exec_of_preLaunch_gp {before : List PrefixByte} {s : State} (h : preLaunch before s = .gp) :
    exec (.getsecEnteraccs before) s = .next (s.takeException (.gp 0#32)) := by
  rw [exec_getsecEnteraccs, enteraccs, h]

/-- Once the leaf is available, lines 4 to 8 have one outcome in common: whichever condition of R251 fails, `#GP(0)`. -/
theorem exec_of_not_checksPass {before : List PrefixByte} {s : State} (available : LeafAvailable before s)
    (h : ¬ ChecksPass before s) : exec (.getsecEnteraccs before) s = .next (s.takeException (.gp 0#32)) := by
  have notPass : preLaunch before s ≠ .pass := mt (preLaunch_eq_pass_iff before s).mp h
  refine exec_of_preLaunch_gp ?_
  rw [preLaunch_of_available available] at notPass ⊢
  split at notPass
  · rename_i fault
    exact if_pos fault
  · exact absurd rfl notPass

/-! ### The conditions of lines 4 to 7, against what acceptance asks for -/

theorem not_modeAccepted {s : State}
    (h : s.vmx = .root ∨ s.cr0PE = false ∨ s.cr0CD = true ∨ s.cr0NW = true ∨ s.cr0NE = false ∨ 0 < s.cpl ∨
      s.flag .vm = true ∨ s.bsp = false ∨ s.cfg.txtChipsetPresent = false ∨ s.acModeFlag = true ∨ s.inSmm = true) :
    ¬ ModeAccepted s := fun ok => by
  simp [ok.notRoot, ok.pe, ok.cd, ok.nw, ok.ne, ok.cpl, ok.vm, ok.bsp, ok.chipset, ok.notAcMode, ok.notSmm] at h

theorem not_noMachineCheck_of_inProgress {s : State} (h : s.mcip = true ∨ s.ierr = true) : ¬ NoMachineCheck s :=
  fun ok => by simp [ok.mcip, ok.ierr] at h

theorem not_rangeAccepted {s : State}
    (h : s.acBase % 4096 ≠ 0 ∨ s.acSize % 64 ≠ 0 ∨ s.acSize < s.cfg.minModuleSize ∨
      s.cfg.acramCapacity < s.acSize ∨ 2 ^ 32 - 1 < s.acBase + s.acSize) : ¬ RangeAccepted s := by
  rintro ⟨base, size, min, max, top⟩
  omega

/-! ### The statements -/

/-- Settles O12: an accepted mode refutes each of the eleven conditions. -/
theorem modeConditionRaisesGp : Obligations.ModeConditionRaisesGp := fun _ _ available h =>
  exec_of_not_checksPass available fun ok => not_modeAccepted h ok.mode

/-- Settles O14: MCIP and IERR are refused apart from the banks, the one place `MCA_HANDLING` is read. -/
theorem machineCheckInProgressRaisesGp : Obligations.MachineCheckInProgressRaisesGp := fun _ _ available h =>
  exec_of_not_checksPass available fun ok => not_noMachineCheck_of_inProgress h ok.noMachineCheck

/-- Settles O15: an accepted range refutes each of the clauses (a) to (e), in unbounded naturals. -/
theorem baseOrSizeViolationRaisesGp : Obligations.BaseOrSizeViolationRaisesGp := fun _ _ available h =>
  exec_of_not_checksPass available fun ok => not_rangeAccepted h ok.range

/-- Settles O9: line 1, which no mode enters into. -/
theorem smxeClearRaisesInvalidOpcode : Obligations.SmxeClearRaisesInvalidOpcode := fun before _ leaf smxe =>
  exec_of_preLaunch_ud (preLaunch_of_smxe_clear before leaf smxe)

/-- Settles O10: line 2 stands before the support and privilege checks; the reason is D4's parameter. -/
theorem vmxNonRootTakesVmExit : Obligations.VmxNonRootTakesVmExit := fun before _ allowed leaf smxe nonRoot =>
  exec_of_preLaunch_vmExit
    (preLaunch_of_nonRoot ((carriesForbidden_eq_false_iff before).mpr allowed) leaf smxe nonRoot)

/-- Settles O11: line 3. -/
theorem unsupportedLeafRaisesInvalidOpcode : Obligations.UnsupportedLeafRaisesInvalidOpcode :=
  fun before _ leaf smxe notNonRoot unsupported =>
    exec_of_preLaunch_ud (preLaunch_of_unsupported before leaf smxe notNonRoot unsupported)

end Sys2Proof.Machine
end

section
/-! PROOF. From the load to the last check of the module: the TXT shutdown each of lines 14 to 24 of R120 gives. -/

namespace Sys2Proof.Machine

/-! ### How a failing line ends the execution (R215) -/

/-- Lines 14 to 16. -/
theorem enteraccs_shuts_down_of_loadFault {d : Draws} {before : List PrefixByte} {s : State} {e : TxtError}
    (checks : ChecksPass before s) (fault : (s.loaded d).loadFault d = some e) :
    ∃ t, enteraccs d before s = .next t ∧ t.status = .txtShutdown e (s.cfg.errorCode e) :=
  ⟨_, (enteraccs_of_checks d checks).trans (launch_of_loadFault _ fault), by simp⟩

/-- Lines 17 to 24. -/
theorem enteraccs_shuts_down_of_moduleFault {d : Draws} {before : List PrefixByte} {s : State} {e : TxtError}
    (checks : ChecksPass before s) (noLoadFault : (s.loaded d).loadFault d = none)
    (fault : s.moduleFault d = some e) :
    ∃ t, enteraccs d before s = .next t ∧ t.status = .txtShutdown e (s.cfg.errorCode e) :=
  ⟨_, (enteraccs_of_checks d checks).trans (launch_of_moduleFault _ noLoadFault fault), by simp⟩

/-! ### Which line fails -/

/-- Line 14 (R156). -/
theorem loadFault_of_not_writeBack (d : Draws) {s : State} (base : s.acBase % 4096 = 0) (h : ¬ AcramWriteBack s) :
    (s.loaded d).loadFault d = some .badACMMType := by
  have notWb : s.acramIsWb = false := Bool.eq_false_iff.mpr (mt (acramIsWb_iff base).mp h)
  simp [loadFault_loaded, notWb]

/-- Line 15 (R157), once line 14 passes. -/
theorem loadFault_of_not_kindAccepted {d : Draws} {s : State} (base : s.acBase % 4096 = 0) (wb : AcramWriteBack s)
    (h : ¬ KindAccepted s.cfg (s.loadedHeader d)) : (s.loaded d).loadFault d = some .unsupportedACM := by
  have notKind : kindSupported s.cfg (s.loadedHeader d) = false :=
    Bool.eq_false_iff.mpr (mt (kindSupported_iff _ _).mp h)
  simp [loadFault_loaded, (acramIsWb_iff base).mpr wb, notKind]

/-- An authentic module of the supported kind in `WB` memory passes lines 14 to 16. -/
theorem loadFault_eq_none_of_authentic {d : Draws} {s : State} (base : s.acBase % 4096 = 0) (wb : AcramWriteBack s)
    (kind : KindAccepted s.cfg (s.loadedHeader d)) (auth : ModuleAuthentic d s) :
    (s.loaded d).loadFault d = none := by
  obtain ⟨key, -⟩ := (moduleAuthentic_iff d s).mp auth
  simp [loadFault_loaded, (acramIsWb_iff base).mpr wb, (kindSupported_iff _ _).mpr kind, key]

/-- Of an authentic module only lines 18 to 24 are left to decide. -/
theorem moduleFault_of_authentic {d : Draws} {s : State} (auth : ModuleAuthentic d s) :
    s.moduleFault d = formatFault s.cfg s.acSize d.hitm (s.finalHeader d) := by
  obtain ⟨-, signature⟩ := (moduleAuthentic_iff d s).mp auth
  simp [moduleFault_eq, signature]

/-- Line 18 precedes every format check (R166). -/
theorem formatFault_of_hitmUnexpected (c : Config) (acSize : Nat) {hitm : Bool} {h : Header}
    (snoop : HitmUnexpected h hitm) : formatFault c acSize hitm h = some .unexpectedHITM := by
  rw [formatFault_eq_some, if_pos ((hitmUnexpected_eq_true_iff h hitm).mpr snoop)]

/-- Lines 19 to 24 have one name in common. -/
theorem formatFault_of_not_consistent {c : Config} {acSize : Nat} {hitm : Bool} {h : Header}
    (noSnoop : ¬ HitmUnexpected h hitm) (bad : ¬ HeaderConsistent c acSize hitm h) :
    formatFault c acSize hitm h = some .badACMFormat := by
  have fails : formatFault c acSize hitm h ≠ none := fun passes =>
    bad ((formatFault_eq_none_iff c acSize hitm h).mp passes).2
  rw [formatFault_eq_some, if_neg (mt (hitmUnexpected_eq_true_iff h hitm).mp noSnoop), if_neg fails]

/-- The name of lines 18 to 24 is the outcome of an authentic module of the supported kind in `WB` memory. -/
theorem enteraccs_shuts_down_of_formatFault {d : Draws} {before : List PrefixByte} {s : State} {e : TxtError}
    (checks : ChecksPass before s) (wb : AcramWriteBack s) (kind : KindAccepted s.cfg (s.loadedHeader d))
    (auth : ModuleAuthentic d s) (fault : formatFault s.cfg s.acSize d.hitm (s.finalHeader d) = some e) :
    ∃ t, enteraccs d before s = .next t ∧ t.status = .txtShutdown e (s.cfg.errorCode e) :=
  enteraccs_shuts_down_of_moduleFault checks (loadFault_eq_none_of_authentic checks.range.base wb kind auth)
    ((moduleFault_of_authentic auth).trans fault)

/-- The conditions of R164, R165 and R169, against what consistency asks for. -/
theorem not_headerConsistent_of_control_gdt_or_limit {c : Config} {acSize : Nat} {hitm : Bool} {h : Header}
    (bad : h.codeControl &&& c.reservedControl ≠ 0 ∨ h.gdtBasePtr < h.headerLen * 4 + h.scratchSize ∨
      acSize ≤ h.gdtBasePtr + h.gdtLimit ∨ h.gdtLimit &&& 0xFFFF0000 ≠ 0) : ¬ HeaderConsistent c acSize hitm h := by
  intro ok
  obtain reserved | gdtLow | gdtHigh | limit := bad
  · exact reserved ok.reserved
  · exact absurd ok.gdtLow (Nat.not_le.mpr gdtLow)
  · exact absurd ok.gdtHigh (Nat.not_lt.mpr gdtHigh)
  · exact limit ok.limit

/-! ### The statements -/

/-- Settles O20: the address refutes that the whole allocation is `WB`. -/
theorem nonWriteBackAllocationShutsDown : Obligations.NonWriteBackAllocationShutsDown :=
  fun _ s a checks low high notWb =>
    enteraccs_shuts_down_of_loadFault checks
      (loadFault_of_not_writeBack (drawsAt s.draws) checks.range.base fun wb => notWb (wb a low high))

/-- Settles O21: either cause refutes that the kind is accepted. -/
theorem unsupportedModuleShutsDown : Obligations.UnsupportedModuleShutsDown := by
  intro d before s checks wb bad
  have notKind : ¬ KindAccepted s.cfg (s.loadedHeader d) := fun ⟨version, type⟩ =>
    bad.elim (absurd version) (absurd type)
  exact enteraccs_shuts_down_of_loadFault checks (loadFault_of_not_kindAccepted checks.range.base wb notKind)

/-- Settles O23: line 18, whatever lines 19 to 24 would say of the header. -/
theorem unexpectedSnoopHitShutsDown : Obligations.UnexpectedSnoopHitShutsDown :=
  fun _ _ s checks wb kind auth control0 control1 hitm =>
    enteraccs_shuts_down_of_formatFault checks wb kind auth
      (formatFault_of_hitmUnexpected s.cfg s.acSize ⟨control0, control1, hitm⟩)

/-- Settles O24: each condition refutes consistency, which lines 19 to 24 decide under one name. -/
theorem malformedHeaderShutsDown : Obligations.MalformedHeaderShutsDown := by
  rintro d before s _ rfl checks wb kind auth noSnoop bad
  exact enteraccs_shuts_down_of_formatFault checks wb kind auth
    (formatFault_of_not_consistent noSnoop (not_headerConsistent_of_control_gdt_or_limit bad))

end Sys2Proof.Machine
end

section
/-! PROOF. What every outcome past the `#GP(0)` checks has in common (R150 to R153). -/

namespace Sys2Proof.Machine

/-- Every next state past the `#GP(0)` checks: a TXT shutdown of what the load or authentication left, or the launch. -/
theorem enteraccs_cases_of_checks {d : Draws} {before : List PrefixByte} {s t : State} (checks : ChecksPass before s)
    (h : enteraccs d before s = .next t) :
    (∃ e, t = (s.loaded d).txtShutdown e) ∨ (∃ e, t = (s.authenticated d).txtShutdown e) ∨
      t = s.launched d (2 + before.length) := by
  cases hl : (s.loaded d).loadFault d with
  | some e =>
    rw [enteraccs_of_checks d checks, launch_of_loadFault _ hl] at h
    exact .inl ⟨e, (Host.Outcome.next.inj h).symm⟩
  | none =>
    cases hm : s.moduleFault d with
    | some e =>
      rw [enteraccs_of_checks d checks, launch_of_moduleFault _ hl hm] at h
      exact .inr (.inl ⟨e, (Host.Outcome.next.inj h).symm⟩)
    | none =>
      have accepted := (moduleAccepted_iff d checks.range.base).mpr ⟨hl, hm⟩
      rw [enteraccs_of_checks d checks, launch_of_accepted _ checks.range.base accepted] at h
      split at h
      · simp at h
      · split at h
        · simp at h
        · exact .inr (.inr (Host.Outcome.next.inj h).symm)

/-- Settles O30: the load, authentication, a shutdown and the launch all keep what preparation did; of the MSRs the
launch writes `IA32_DEBUGCTL` again, with the same value (R195). -/
theorem preparationHoldsInEveryLaterOutcome : Obligations.PreparationHoldsInEveryLaterOutcome := by
  intro before s t checks h
  rw [exec_getsecEnteraccs] at h
  obtain ⟨e, rfl⟩ | ⟨e, rfl⟩ | rfl := enteraccs_cases_of_checks checks h
  · simp [allPins, preparedMsrs, State.memView]
  · simp [allPins, preparedMsrs, State.memView]
  · simp [allPins, launchMsrs, State.memView]

end Sys2Proof.Machine
end

section
/-! PROOF. Where a launch enters the module, and in what mode (R167, R199). -/

namespace Sys2Proof

/-- A 32-bit value with a zero upper half is the same number. -/
theorem Word.toNat_ofHalves_zero (lo : Half) : (Word.ofHalves 0#32 lo).toNat = lo.toNat := by
  simp only [Word.ofHalves, BitVec.toNat_append, BitVec.toNat_ofNat, Nat.zero_mod, Nat.zero_shiftLeft, Nat.zero_or]

namespace Machine

theorem entryOff_eq_entryOffset (h : Header) (hitm : Bool) : h.entryOff hitm = entryOffset h hitm := by
  simp [Header.entryOff, entryOffset, Header.control0, Header.control1, and_assoc]

/-- The jump of R199 does not wrap below `2^32`. -/
theorem toNat_launchRip {acBase off : Nat} (h : acBase + off < 2 ^ 32) :
    (launchRip acBase off).toNat = acBase + off := by
  rw [launchRip, Word.toNat_ofHalves_zero, BitVec.toNat_ofNat, Nat.mod_eq_of_lt h]

@[simp] theorem State.length_finalBytes (d : Draws) (s : State) : (s.finalBytes d).length = acramAlloc s.acSize := by
  rw [State.finalBytes, length_mapOffsets, length_loadedBytes]

/-- Paging is off after a launch (R182). -/
theorem State.launched_cr0PG (d : Draws) (len : Nat) (s : State) : (s.launched d len).cr0PG = false := by
  simp [State.cr0PG, launchCtrl, clearBits, cr0LaunchMask]

/-- Virtual-8086 mode is off after a launch (R184). -/
theorem State.launched_flag_vm (d : Draws) (len : Nat) (s : State) : (s.launched d len).flag .vm = false := by
  simp [State.flag, Flag.position, launchFlags]

/-- The 16 bits of `CS.SEL` hold the `RPL` of the module's selector. -/
theorem launchCs_sel_mod_four (segSel : Nat) : (launchCs segSel).sel.toNat % 4 = segSel % 4 := by
  rw [launchCs, BitVec.toNat_ofNat]
  omega

/-- The privilege level after a launch is the `RPL` of the module's selector, which R171 has at 0. -/
theorem State.launched_cpl {d : Draws} (len : Nat) {s : State} (rpl : (s.finalHeader d).segSel % 4 = 0) :
    (s.launched d len).cpl = 0 := by
  simp [State.cpl, State.launched_flag_vm, launchCs_sel_mod_four, rpl]

/-- ACRAM serves every address of the module after a launch (R78, R154). -/
theorem State.launched_covers (d : Draws) (len : Nat) {s : State} {off : Nat} (h : off < s.acSize) :
    (s.launched d len).acram.covers (s.acBase + off) = true := by
  have inAllocation : off < acramAlloc s.acSize := Nat.lt_of_lt_of_le h (le_acramAlloc s.acSize)
  simp [AcRam.covers, inAllocation]

/-- Settles O35: R168 places the entry offset inside the module, whose end R129 has below `2^32`. -/
theorem launchEntersTheModule : Obligations.LaunchEntersTheModule := by
  rintro before s _ rfl ready
  have hitm := State.launched_snoopHitm (drawsAt s.draws) (2 + before.length) s
  have entryLow := ready.module.header.entryLow
  have entryHigh := ready.module.header.entryHigh
  have top : s.acBase + s.acSize ≤ 2 ^ 32 - 1 := ready.checks.range.top
  have below : s.acBase + (s.finalHeader (drawsAt s.draws)).entryOff (drawsAt s.draws).hitm < 2 ^ 32 := by omega
  have rip := (congrArg BitVec.toNat (State.launched_rip (drawsAt s.draws) (2 + before.length) s)).trans
    (toNat_launchRip below)
  refine ⟨_, enteraccs_of_ready ready, State.launched_status _ _ s, ?_⟩
  rw [hitm, ← entryOff_eq_entryOffset, rip]
  exact ⟨rfl, below, entryHigh, entryLow, by simp [launchCs], State.launched_cr0PG _ _ s,
    State.launched_cpl _ ready.module.header.selRpl, State.launched_covers _ _ entryHigh⟩

end Machine

end Sys2Proof
end

section
/-! PROOF. The registers a launch initialises, the debug state it clears and the chipset's spaces it opens
(R182 to R185, R193, R195, R196, R198). -/

namespace Sys2Proof.Machine

/-! ### Bits cleared in a control register (R10) -/

theorem getLsbD_clearBits (w mask : Word) {i : Nat} (h : i < 64) :
    (clearBits w mask).getLsbD i = (!mask.getLsbD i && w.getLsbD i) := by
  simp [clearBits, h, Bool.and_comm]

/-- The mask of R182 has `PG`, `AM` and `WP`, at the places of G3, and no other bit. -/
theorem getLsbD_cr0LaunchMask : ∀ i, i < 64 →
    (!cr0LaunchMask.getLsbD i) = (decide (i ≠ 31) && decide (i ≠ 18) && decide (i ≠ 16)) := by
  decide

/-- The mask of R183 has `MCE`, at the place of G4, and no other bit. -/
theorem getLsbD_cr4LaunchMask : ∀ i, i < 64 → (!cr4LaunchMask.getLsbD i) = decide (i ≠ 6) := by
  decide

/-! ### What the launched state holds -/

theorem getLsbD_launchCtrl_cr0 (c : Ctrl) {i : Nat} (h : i < 64) :
    (launchCtrl c).cr0.getLsbD i =
      (decide (i ≠ 31) && decide (i ≠ 18) && decide (i ≠ 16) && c.cr0.getLsbD i) := by
  rw [launchCtrl, getLsbD_clearBits _ _ h, getLsbD_cr0LaunchMask i h]

theorem getLsbD_launchCtrl_cr4 (c : Ctrl) {i : Nat} (h : i < 64) :
    (launchCtrl c).cr4.getLsbD i = (decide (i ≠ 6) && c.cr4.getLsbD i) := by
  rw [launchCtrl, getLsbD_clearBits _ _ h, getLsbD_cr4LaunchMask i h]

theorem launchDr7_lo : launchDr7.lo = 0x00000400#32 := by
  decide

/-- No trap is enabled after a launch (R184, R196). -/
theorem State.launched_flag_tf (d : Draws) (len : Nat) (s : State) : (s.launched d len).flag .tf = false := by
  simp [State.flag, Flag.position, launchFlags]

/-! ### Which outcome sends the messages (R198) -/

/-- `OpenPrivate` and `OpenLocality3` come after every check: an end of the leaf that stops a running processor has
sent neither. -/
theorem chipsetSpaces_of_not_launched {d : Draws} {before : List PrefixByte} {s t : State}
    (running : s.status = .running) (h : enteraccs d before s = .next t) (ended : t.status ≠ .running) :
    t.chipset.privateOpen = s.chipset.privateOpen ∧ t.chipset.locality3Open = s.chipset.locality3Open := by
  obtain rfl | rfl | rfl | ⟨-, e, -, rfl⟩ | ⟨-, -, e, -, rfl⟩ | ⟨-, rfl⟩ := enteraccs_cases h
  · simp
  · simp
  · simp
  · simp
  · simp
  · exact absurd ((State.launched_status _ _ s).trans running) ended

/-! ### The statements -/

/-- Settles O31: the launched state's control registers are the old ones under the two masks, bit by bit. -/
theorem launchInitialisesControlState : Obligations.LaunchInitialisesControlState := by
  intro before s ready
  refine ⟨_, enteraccs_of_ready ready, fun i hi => ?_, fun i hi => ?_, ?_⟩
  · rw [State.launched_ctrl, getLsbD_launchCtrl_cr0 _ hi]
  · rw [State.launched_ctrl, getLsbD_launchCtrl_cr4 _ hi]
  · simp [launchFlags, launchMsrs, launchDr7_lo]

/-- Settles O36: the launch clears what could trap and opens both spaces; it is the one end that leaves the processor
running. -/
theorem launchEndsDebugAndOpensChipset : Obligations.LaunchEndsDebugAndOpensChipset := by
  refine ⟨fun before s ready => ⟨_, enteraccs_of_ready ready, ?_⟩, fun _ _ _ => chipsetSpaces_of_not_launched⟩
  simp [State.launched_flag_tf, launchMsrs, launchDr7_lo]

end Sys2Proof.Machine
end

section
/-! PROOF. The descriptor table and the segments of a launch, which hold the header's values without truncation
(R190 to R192). -/

namespace Sys2Proof.Machine

/-- R169 for a limit of at most 32 bits: the upper half being 0, it fits the 16 bits of `GDTR.LIMIT`. -/
theorem lt_of_and_upperHalf_eq_zero {limit : Nat} (h : limit &&& 0xFFFF0000 = 0) (word : limit < 2 ^ 32) :
    limit < 2 ^ 16 := by
  have upper : limit / 2 ^ 16 % 2 ^ 16 = 0 := by
    rw [← Nat.and_two_pow_sub_one_eq_mod, ← Nat.shiftRight_eq_div_pow]
    calc (limit >>> 16) &&& (2 ^ 16 - 1) = (limit >>> 16) &&& (0xFFFF0000 >>> 16) := rfl
      _ = (limit &&& 0xFFFF0000) >>> 16 := Nat.shiftRight_and_distrib.symm
      _ = 0 := by rw [h, Nat.zero_shiftRight]
  omega

/-- What R190 draws from R129, R165, R169 and R170: the module and its table lie below `2^32`, and the limit and both
selectors fit 16 bits. -/
theorem launchedHeader_fits {d : Draws} {before : List PrefixByte} {s : State} (ready : LaunchReady d before s) :
    s.acBase + (s.finalHeader d).gdtBasePtr < 2 ^ 32 ∧ (s.finalHeader d).gdtLimit < 2 ^ 16 ∧
      (s.finalHeader d).segSel + 8 < 2 ^ 16 := by
  have top := ready.checks.range.top
  have inside := ready.module.header.gdtHigh
  have selHigh := ready.module.header.selHigh
  have limit := lt_of_and_upperHalf_eq_zero ready.module.header.limit (by omega)
  omega

theorem toNat_launchGdtr_base {acBase : Nat} {h : Header} (fits : acBase + h.gdtBasePtr < 2 ^ 32) :
    (launchGdtr acBase h).base.toNat = acBase + h.gdtBasePtr := by
  rw [launchGdtr, BitVec.toNat_ofNat, Nat.mod_eq_of_lt (by omega)]

theorem toNat_launchGdtr_limit (acBase : Nat) {h : Header} (fits : h.gdtLimit < 2 ^ 16) :
    (launchGdtr acBase h).limit.toNat = h.gdtLimit := by
  rw [launchGdtr, BitVec.toNat_ofNat, Nat.mod_eq_of_lt fits]

theorem toNat_launchCs_sel {segSel : Nat} (fits : segSel < 2 ^ 16) : (launchCs segSel).sel.toNat = segSel := by
  rw [launchCs, BitVec.toNat_ofNat, Nat.mod_eq_of_lt fits]

theorem toNat_launchDs_sel {segSel : Nat} (fits : segSel + 8 < 2 ^ 16) :
    (launchDs segSel).sel.toNat = segSel + 8 := by
  rw [launchDs, BitVec.toNat_ofNat, Nat.mod_eq_of_lt fits]

/-- Settles O33: nothing of the header is cut off on its way into the registers; the rest of `CS` and `DS` is fixed. -/
theorem launchLoadsTableAndSegments : Obligations.LaunchLoadsTableAndSegments := by
  rintro before s _ rfl ready
  obtain ⟨base, limit, sel⟩ := launchedHeader_fits ready
  refine ⟨_, enteraccs_of_ready ready, ?_⟩
  rw [State.launched_gdtr, State.launched_seg]
  exact ⟨toNat_launchGdtr_base base, toNat_launchGdtr_limit _ limit, toNat_launchCs_sel (by omega), rfl, rfl, rfl, rfl,
    rfl, toNat_launchDs_sel sel, rfl, rfl, rfl, rfl, rfl⟩

end Sys2Proof.Machine
end

section
/-! PROOF. The ends of the leaf that change nothing: `#UD`, `#GP(0)` and the VM exit (R216). -/

namespace Sys2Proof.Machine

/-- The ends that write state are the shutdowns and the launch (lines 9 to 27 of R120), and neither kind records an
exception or a VM exit; every end that does is taken in the entry state itself. -/
theorem eq_entry_with_status_of_refused {d : Draws} {before : List PrefixByte} {s t : State}
    (running : s.status = .running) (h : enteraccs d before s = .next t)
    (refused : (∃ e, t.status = .exception e) ∨ ∃ r, t.status = .vmExit r) : t = { s with status := t.status } := by
  obtain rfl | rfl | rfl | ⟨-, e, -, rfl⟩ | ⟨-, -, e, -, rfl⟩ | ⟨-, rfl⟩ := enteraccs_cases h
  · rfl
  · rfl
  · rfl
  · simp at refused
  · simp at refused
  · simp [running] at refused

/-- Settles O17: the leaf is the one instruction, and its refusals all come before the first write of line 9. -/
theorem refusedLaunchChangesNothing : Obligations.RefusedLaunchChangesNothing := by
  rintro ⟨before⟩ s t running h
  rw [exec_getsecEnteraccs] at h
  exact eq_entry_with_status_of_refused running h

end Sys2Proof.Machine
end

section
/-! PROOF. Where an execution of the leaf can end (R11, R264), and what an end in `Launched` says of its start (R251,
R253, R254). -/

namespace Sys2Proof.Machine

/-! ### That the leaf answers a next state -/

/-- The leaf number alone says whether this is the instruction of the spec (R104). -/
theorem preLaunch_ne_otherLeaf {before : List PrefixByte} {s : State} (leaf : s.eax = 2#32) :
    preLaunch before s ≠ .otherLeaf := by
  have noOther : ¬ s.eax ≠ enteraccsLeaf := not_not_intro leaf
  rw [preLaunch, if_neg noOther]
  repeat' split
  all_goals nofun

/-- Past the `#GP(0)` checks only the platform can be in the way of an answer (U12, U17; log 16). -/
theorem exists_launch_eq_next (d : Draws) (len : Nat) {s : State} (base : s.acBase % 4096 = 0)
    (platform : PlatformReady s) : ∃ t, launch d len s = .next t := by
  cases hl : (s.loaded d).loadFault d with
  | some e => exact ⟨_, launch_of_loadFault len hl⟩
  | none =>
    cases hm : s.moduleFault d with
    | some e => exact ⟨_, launch_of_moduleFault len hl hm⟩
    | none =>
      obtain ⟨outside, idle⟩ := (platformReady_iff base).mp platform
      have accepted := (moduleAccepted_iff d base).mpr ⟨hl, hm⟩
      exact ⟨_, by rw [launch_of_accepted len base accepted, outside, idle]; rfl⟩

theorem exists_enteraccs_eq_next (d : Draws) (before : List PrefixByte) {s : State} (leaf : s.eax = 2#32)
    (platform : PlatformReady s) : ∃ t, enteraccs d before s = .next t := by
  cases hp : preLaunch before s with
  | otherLeaf => exact absurd hp (preLaunch_ne_otherLeaf leaf)
  | ud | vmExit | gp => exact ⟨_, by rw [enteraccs, hp]⟩
  | pass =>
    have checks := (preLaunch_eq_pass_iff before s).mp hp
    rw [enteraccs_of_checks d checks]
    exact exists_launch_eq_next d _ checks.range.base platform

/-! ### The outcome of each next state -/

/-- The outcomes of R11, each with the case of the leaf it comes from. -/
theorem status_of_enteraccs {d : Draws} {before : List PrefixByte} {s t : State} (running : s.status = .running)
    (h : enteraccs d before s = .next t) :
    (t.status = .running ∧ LaunchReady d before s) ∨ t.status = .exception .ud ∨ t.status = .exception (.gp 0#32) ∨
      (∃ r, t.status = .vmExit r) ∨ ∃ e code, t.status = .txtShutdown e code := by
  obtain rfl | rfl | rfl | ⟨-, e, -, rfl⟩ | ⟨-, -, e, -, rfl⟩ | ⟨ready, rfl⟩ := enteraccs_cases h
  · exact .inr (.inl rfl)
  · exact .inr (.inr (.inr (.inl ⟨_, rfl⟩)))
  · exact .inr (.inr (.inl rfl))
  · exact .inr (.inr (.inr (.inr ⟨e, _, rfl⟩)))
  · exact .inr (.inr (.inr (.inr ⟨e, _, rfl⟩)))
  · exact .inl ⟨(State.launched_status d _ s).trans running, ready⟩

/-! ### The statements -/

/-- Settles O18: a leaf with this number answers on a ready platform, and each next state has one of the outcomes. -/
theorem executionEndsInOneOfFiveOutcomes : Obligations.ExecutionEndsInOneOfFiveOutcomes := by
  intro before s running leaf platform
  obtain ⟨t, h⟩ := exists_enteraccs_eq_next (drawsAt s.draws) before leaf platform
  exact ⟨t, h, (status_of_enteraccs running h).imp_left And.left⟩

/-- Settles O43: the four other ends leave the processor not running. -/
theorem launchedOnlyWhenEveryConditionHolds : Obligations.LaunchedOnlyWhenEveryConditionHolds := by
  intro before s t running h launched
  obtain ⟨-, ready⟩ | ended | ended | ⟨_, ended⟩ | ⟨_, _, ended⟩ := status_of_enteraccs running h
  · exact ready
  all_goals simp [launched] at ended

end Sys2Proof.Machine
end

section
/-! PROOF. The decoder and the encoder are inverse to each other, and a sequence with fourteen or more bytes before the
opcode is too long (R100, R105, R107). -/

namespace Sys2Proof

/-! ### The place of a REX byte (R107) -/

/-- A REX byte has none after it and stands in 64-bit mode; the bytes after any other decide. -/
theorem rexPlaced_cons {mode64 : Bool} {p : PrefixByte} {ps : List PrefixByte} :
    rexPlaced mode64 (p :: ps) = true ↔
      (p.isRex = true → ps = [] ∧ mode64 = true) ∧ rexPlaced mode64 ps = true := by
  cases ps with
  | nil => cases hr : p.isRex <;> simp [rexPlaced, hr]
  | cons q qs => simp [rexPlaced]

theorem wellFormed_getsecEnteraccs {mode64 : Bool} {before : List PrefixByte} :
    Instr.wellFormed mode64 (.getsecEnteraccs before) = true ↔
      before.length ≤ 13 ∧ rexPlaced mode64 before = true := by
  simp [Instr.wellFormed]

/-- Encoding: the bytes before the opcode, then the opcode (R100). -/
theorem encode_getsecEnteraccs_append (before : List PrefixByte) (rest : List Byte) :
    encode (.getsecEnteraccs before) ++ rest = before.map PrefixByte.toByte ++ 0x0F#8 :: 0x37#8 :: rest := by
  simp [encode]

/-! ### Decoding forward, byte by byte -/

/-- One byte before the opcode costs one byte of the budget, and it is the first byte of what decodes after it. -/
theorem decodeWithin_toByte_cons {mode64 : Bool} {p : PrefixByte} {ps : List PrefixByte} (n : Nat) (rest : List Byte)
    (placed : rexPlaced mode64 (p :: ps) = true) :
    decodeWithin mode64 (n + 1) ((p :: ps).map PrefixByte.toByte ++ 0x0F#8 :: rest) =
      (decodeWithin mode64 n (ps.map PrefixByte.toByte ++ 0x0F#8 :: rest)).addBefore p := by
  rw [List.map_cons, List.cons_append, decodeWithin, if_neg (toByte_ne_opcode p)]
  obtain ⟨rexLast, -⟩ := rexPlaced_cons.mp placed
  cases p with
  | rex w =>
    obtain ⟨rfl, rfl⟩ := rexLast rfl
    obtain ⟨notLegacy, isRex, low⟩ := rex_toByte w
    cases n with
    | zero => simp [notLegacy, isRex, decodeWithin, Decoded.addBefore]
    | succ n => simp [notLegacy, isRex, low, nextIsOpcode]
  | _ => rw [legacyPrefix_toByte _ rfl]

/-- A budget that does not reach past the opcode is spent before the instruction ends. -/
theorem decodeWithin_eq_tooLong {mode64 : Bool} (rest : List Byte) :
    ∀ {before : List PrefixByte} {n : Nat}, rexPlaced mode64 before = true → n < before.length + 2 →
      decodeWithin mode64 n (before.map PrefixByte.toByte ++ 0x0F#8 :: rest) = .tooLong
  | _, 0, _, _ => rfl
  | [], 1, _, _ => rfl
  | [], n + 2, _, short => absurd short (by simp)
  | p :: ps, n + 1, placed, short => by
    have tail : rexPlaced mode64 ps = true := (rexPlaced_cons.mp placed).2
    have shortTail : n < ps.length + 2 := Nat.lt_of_succ_lt_succ short
    rw [decodeWithin_toByte_cons n rest placed, decodeWithin_eq_tooLong rest tail shortTail]
    rfl

/-- A budget that reaches past the opcode gives the instruction. -/
theorem decodeWithin_eq_instr {mode64 : Bool} (rest : List Byte) :
    ∀ {before : List PrefixByte} {n : Nat}, rexPlaced mode64 before = true → before.length + 2 ≤ n →
      decodeWithin mode64 n (before.map PrefixByte.toByte ++ 0x0F#8 :: 0x37#8 :: rest) =
        .instr (.getsecEnteraccs before) rest
  | [], n + 2, _, _ => rfl
  | p :: ps, n + 1, placed, enough => by
    have tail : rexPlaced mode64 ps = true := (rexPlaced_cons.mp placed).2
    have enoughTail : ps.length + 2 ≤ n := Nat.le_of_succ_le_succ enough
    rw [decodeWithin_toByte_cons n _ placed, decodeWithin_eq_instr rest tail enoughTail]
    rfl

/-! ### Decoding backward -/

/-- An instruction with one more byte before it came from an instruction without. -/
theorem exists_of_addBefore_eq_instr {p : PrefixByte} {x : Decoded} {before : List PrefixByte} {rest : List Byte}
    (h : x.addBefore p = .instr (.getsecEnteraccs before) rest) :
    ∃ ps, before = p :: ps ∧ x = .instr (.getsecEnteraccs ps) rest := by
  cases x with
  | instr i r =>
    obtain ⟨ps⟩ := i
    simp only [Decoded.addBefore, Instr.addBefore, Decoded.instr.injEq, Instr.getsecEnteraccs.injEq] at h
    exact ⟨ps, h.1.symm, by rw [h.2]⟩
  | tooLong | truncated | otherOpcode => simp [Decoded.addBefore] at h

/-- After `0F` only `37` ends an instruction, with nothing before it. -/
theorem eq_of_decodeSecond {bs rest : List Byte} {before : List PrefixByte}
    (h : decodeSecond bs = .instr (.getsecEnteraccs before) rest) : before = [] ∧ bs = 0x37#8 :: rest := by
  cases bs with
  | nil => simp [decodeSecond] at h
  | cons c bs =>
    rw [decodeSecond] at h
    split at h
    · rename_i isLast
      simp only [Decoded.instr.injEq, Instr.getsecEnteraccs.injEq] at h
      exact ⟨h.1.symm, by rw [isLast, h.2]⟩
    · simp at h

/-- Bytes before an opcode that begin with the opcode's own first byte are none. -/
theorem eq_nil_of_nextIsOpcode {before : List PrefixByte} {rest : List Byte}
    (h : nextIsOpcode (before.map PrefixByte.toByte ++ rest) = true) : before = [] := by
  cases before with
  | nil => rfl
  | cons p ps => exact absurd (by simpa [nextIsOpcode] using h) (toByte_ne_opcode p)

/-- What decodes within a budget fits in it, has its REX byte where it may stand, and is encoded by the bytes it was
read from. -/
theorem decodeWithin_inv {mode64 : Bool} {rest : List Byte} :
    ∀ {n : Nat} {bytes : List Byte} {before : List PrefixByte},
      decodeWithin mode64 n bytes = .instr (.getsecEnteraccs before) rest →
        before.length + 2 ≤ n ∧ rexPlaced mode64 before = true ∧
          before.map PrefixByte.toByte ++ 0x0F#8 :: 0x37#8 :: rest = bytes
  | 0, _, _, h => by simp [decodeWithin] at h
  | _ + 1, [], _, h => by simp [decodeWithin] at h
  | n + 1, b :: bs, before, h => by
    rw [decodeWithin] at h
    split at h
    · rename_i isOpcode
      split at h
      · simp at h
      · rename_i budget
        obtain ⟨rfl, rfl⟩ := eq_of_decodeSecond h
        exact ⟨Nat.succ_le_succ (Nat.pos_of_ne_zero budget), rfl, by rw [isOpcode]; rfl⟩
    · split at h
      · rename_i p legacy
        obtain ⟨byte, notRex⟩ := toByte_of_legacyPrefix legacy
        obtain ⟨ps, rfl, hps⟩ := exists_of_addBefore_eq_instr h
        obtain ⟨fits, placed, rfl⟩ := decodeWithin_inv hps
        exact ⟨Nat.succ_le_succ fits, rexPlaced_cons.mpr ⟨by simp [notRex], placed⟩, by rw [← byte]; rfl⟩
      · split at h
        · rename_i rexHere
          obtain ⟨long, isRex⟩ := Bool.and_eq_true_iff.mp rexHere
          split at h
          · simp at h
          · split at h
            · simp at h
            · split at h
              · rename_i opcodeNext
                obtain ⟨ps, rfl, hps⟩ := exists_of_addBefore_eq_instr h
                obtain ⟨fits, placed, rfl⟩ := decodeWithin_inv hps
                have none := eq_nil_of_nextIsOpcode opcodeNext
                exact ⟨Nat.succ_le_succ fits, rexPlaced_cons.mpr ⟨fun _ => ⟨none, long⟩, placed⟩,
                  by rw [List.map_cons, toByte_of_isRexByte isRex]; rfl⟩
              · simp at h
        · simp at h

/-! ### The statements -/

/-- Settles O4: the 15 bytes of the budget suffice for a well-formed instruction. -/
theorem decodeOfEncodeIsTheInstruction : Obligations.DecodeOfEncodeIsTheInstruction := by
  rintro mode64 ⟨before⟩ rest wf
  obtain ⟨short, placed⟩ := wellFormed_getsecEnteraccs.mp wf
  rw [encode_getsecEnteraccs_append]
  exact decodeWithin_eq_instr rest placed (by omega)

/-- Settles O5, by induction on the decoder's budget. -/
theorem decodedBytesAreTheEncoding : Obligations.DecodedBytesAreTheEncoding := by
  rintro mode64 bytes rest ⟨before⟩ h
  obtain ⟨fits, placed, rfl⟩ := decodeWithin_inv h
  exact ⟨wellFormed_getsecEnteraccs.mpr ⟨by omega, placed⟩, encode_getsecEnteraccs_append before rest⟩

/-- Settles O6: fourteen bytes and the opcode's two exceed the 15 bytes of the budget. -/
theorem overlongInstructionRaisesGp : Obligations.OverlongInstructionRaisesGp := by
  refine ⟨fun mode64 before rest long placed => ?_, fun s executing overlong => ?_⟩
  · exact decodeWithin_eq_tooLong rest placed (by omega)
  · rw [Machine.step_of_executing executing, overlong]
    rfl

/-- Settles O2: the decoder's answer is all that a step of an executing processor looks at. -/
theorem stepRunsDecodedInstruction : Obligations.StepRunsDecodedInstruction := by
  intro s i rest executing decoded
  rw [Machine.step_of_executing executing, decoded]
  rfl

/-- Settles O3, a finite list of byte sequences. -/
theorem sampleWordsDecode : Obligations.SampleWordsDecode := by
  unfold Obligations.SampleWordsDecode
  decide

end Sys2Proof
end

section
/-! PROOF. What every step keeps: the canonical form of memory (R52), the invariant of authenticated code execution mode
(R225), the geometry of ACRAM (R75, R77), and each byte of memory as the ILP sees it (R83). And the state a run starts
from (R54), the steps after an ended execution (D3 to D5) and the pins between two steps (R43). -/

namespace Sys2Proof.Machine

/-! ### The ends a step can have, with what was checked before them -/

/-- A step that answers is one of an executing processor. Its next state is `#UD`, `#GP(0)` or the VM exit in the state
itself; or, past the checks of one execution of the leaf, a TXT shutdown or the launch. -/
theorem step_next_cases_of_checks {s t : State} (h : step s = .next t) :
    Executing s ∧
      (t = s.takeException .ud ∨ t = s.takeException (.gp 0#32) ∨ t = s.takeVmExit ∨
        ∃ before, ChecksPass before s ∧
          ((∃ e, t = (s.loaded (drawsAt s.draws)).txtShutdown e) ∨
            (∃ e, t = (s.authenticated (drawsAt s.draws)).txtShutdown e) ∨
            (LaunchReady (drawsAt s.draws) before s ∧
              t = s.launched (drawsAt s.draws) (2 + before.length)))) := by
  obtain ⟨executing, ⟨⟨before⟩, -, -, hexec⟩ | ⟨-, overlong⟩⟩ := step_cases h
  · refine ⟨executing, ?_⟩
    rw [exec_getsecEnteraccs] at hexec
    obtain ud | exit | gp | ⟨checks, e, -, loaded⟩ | ⟨checks, -, e, -, auth⟩ | ⟨ready, launched⟩ :=
      enteraccs_cases hexec
    · exact .inl ud
    · exact .inr (.inr (.inl exit))
    · exact .inr (.inl gp)
    · exact .inr (.inr (.inr ⟨before, checks, .inl ⟨e, loaded⟩⟩))
    · exact .inr (.inr (.inr ⟨before, checks, .inr (.inl ⟨e, auth⟩)⟩))
    · exact .inr (.inr (.inr ⟨before, ready.checks, .inr (.inr ⟨ready, launched⟩)⟩))
  · exact ⟨executing, .inr (.inl overlong)⟩

/-! ### Memory (R52, R83, R84) -/

/-- What a step does to memory and to the transactions under way: nothing, or it completes them all (R152). -/
theorem mem_of_step {s t : State} (h : step s = .next t) :
    (t.mem = s.mem ∧ t.outgoing = s.outgoing) ∨ (t.mem = s.memView ∧ t.outgoing = []) := by
  obtain ⟨e, rfl⟩ | rfl | ⟨e, rfl⟩ | ⟨e, rfl⟩ | ⟨len, rfl⟩ := step_next_cases h
  · exact .inl ⟨rfl, rfl⟩
  · exact .inl ⟨rfl, rfl⟩
  · exact .inr ⟨rfl, rfl⟩
  · exact .inr ⟨State.authenticated_mem (drawsAt s.draws) s, State.authenticated_outgoing (drawsAt s.draws) s⟩
  · exact .inr ⟨State.launched_mem _ len s, State.launched_outgoing _ len s⟩

/-- Memory as the ILP sees it is the memory and the transactions under way. -/
theorem memView_congr {s t : State} (mem : t.mem = s.mem) (outgoing : t.outgoing = s.outgoing) :
    t.memView = s.memView := by
  rw [State.memView, State.memView, mem, outgoing]

/-- With nothing under way the ILP sees memory itself. -/
theorem memView_of_drained {s : State} (drained : s.outgoing = []) : s.memView = s.mem := by
  rw [State.memView, drained]
  rfl

/-- Settles O48: completing stores keeps the form (`Memory.wf_complete`), and a step does nothing else to memory. -/
theorem stepKeepsMemoryCanonical : Obligations.StepKeepsMemoryCanonical := by
  intro s t wf h
  obtain ⟨mem, -⟩ | ⟨mem, -⟩ := mem_of_step h
  · rwa [MemCanonical, mem]
  · rw [MemCanonical, mem]
    exact Memory.wf_complete s.outgoing wf

/-- Settles O47: a byte the ILP sees in a store under way is in memory once the store has completed. -/
theorem stepStoresNothing : Obligations.StepStoresNothing := by
  intro s t a h
  obtain ⟨mem, outgoing⟩ | ⟨mem, drained⟩ := mem_of_step h
  · rw [memView_congr mem outgoing]
  · rw [memView_of_drained drained, mem]

/-! ### Authenticated code execution mode (R225) -/

/-- The invariant speaks of these fields alone. -/
theorem AcModeInv.congr {s t : State} (inv : AcModeInv s) (flag : t.acModeFlag = s.acModeFlag)
    (masks : t.masks = s.masks) (chipset : t.chipset = s.chipset) (a20m : t.a20m = s.a20m)
    (stale : t.idtStale = s.idtStale) : AcModeInv t := by
  obtain ⟨masked, held, noA20, openOnly, localityOnly, staleOnly⟩ := inv
  constructor <;> simpa only [flag, masks, chipset, a20m, stale]

/-- A state that preparation has put into the mode meets the invariant, whatever the chipset's spaces are. -/
theorem AcModeInv.of_prepared {t : State} (flag : t.acModeFlag = true) (masks : t.masks = allPins)
    (hold : t.chipset.processorHold = true) (a20m : t.a20m = false) : AcModeInv t :=
  ⟨fun _ => masks, fun _ => hold, fun _ => a20m, fun _ => flag, fun _ => flag, fun _ => flag⟩

/-- Settles O49: an exception and the VM exit touch none of the fields; every other end comes after R150 to R153. -/
theorem stepKeepsAcModeInvariant : Obligations.StepKeepsAcModeInvariant := by
  intro s t inv h
  obtain ⟨e, rfl⟩ | rfl | ⟨e, rfl⟩ | ⟨e, rfl⟩ | ⟨len, rfl⟩ := step_next_cases h
  · exact inv.congr rfl rfl rfl rfl rfl
  · exact inv.congr rfl rfl rfl rfl rfl
  all_goals exact .of_prepared (by simp) (by simp) (by simp) (by simp)

/-- Settles O50: the flag is one of the conditions of R125, so nothing past the checks is reached. -/
theorem authenticatedModeStepChangesNothing : Obligations.AuthenticatedModeStepChangesNothing := by
  intro s t flag h
  obtain ⟨-, rfl | rfl | rfl | ⟨before, checks, -⟩⟩ := step_next_cases_of_checks h
  · exact ⟨rfl, .inl rfl⟩
  · exact ⟨rfl, .inr (.inl rfl)⟩
  · exact ⟨rfl, .inr (.inr ⟨_, rfl⟩)⟩
  · exact absurd flag (by simp [checks.mode.notAcMode])

/-! ### ACRAM (R75, R77) -/

theorem acramAlloc_mod (n : Nat) : acramAlloc n % 4096 = 0 := by
  rw [acramAlloc, Nat.mul_mod_right]

/-- ACRAM as a load maps it, at a base R129 (a) has accepted. -/
theorem AcramGeometry.of_loaded {s t : State} {bytes : List Byte} (base : s.acBase % 4096 = 0)
    (acram : t.acram = ⟨true, s.acBase, bytes⟩) (length : bytes.length = acramAlloc s.acSize) : AcramGeometry t := by
  constructor <;> intro _
  · rwa [acram]
  · rw [acram, length, acramAlloc_mod]

/-- Settles O51: ACRAM is as it was, or a load has mapped it at the base R129 has checked. -/
theorem stepKeepsAcramGeometry : Obligations.StepKeepsAcramGeometry := by
  intro s t inv h
  obtain ⟨-, rfl | rfl | rfl | ⟨before, checks, ⟨e, rfl⟩ | ⟨e, rfl⟩ | ⟨-, rfl⟩⟩⟩ := step_next_cases_of_checks h
  · exact ⟨inv.base, inv.size⟩
  · exact ⟨inv.base, inv.size⟩
  · exact ⟨inv.base, inv.size⟩
  · exact .of_loaded checks.range.base (State.loaded_acram _ s) (length_loadedBytes _ _ _ _)
  · exact .of_loaded checks.range.base (State.authenticated_acram _ s) (State.length_finalBytes _ s)
  · exact .of_loaded checks.range.base (State.launched_acram _ _ s) (State.length_finalBytes _ s)

/-! ### Reset (R54, R250, D22) -/

/-- Settles O52: no flag is set, no memory is listed and ACRAM is not mapped. -/
theorem resetMeetsTheInvariants : Obligations.ResetMeetsTheInvariants := by
  refine ⟨rfl, ?_, ?_⟩
  · constructor <;> exact nofun
  · constructor <;> exact nofun

/-- Settles O1: the values of `State.reset`, and the other processors are copies of one that waits for SIPI. -/
theorem resetLeavesLaunchFlagsClear : Obligations.ResetLeavesLaunchFlagsClear := by
  refine ⟨rfl, rfl, rfl, rfl, rfl, fun p member => ?_⟩
  rw [List.eq_of_mem_replicate member]
  rfl

/-! ### Between two executions -/

/-- Settles O45: the recorded outcome alone says how the next step stops, and after an exception the stale-IDT mark. -/
theorem endedExecutionTakesNoStep : Obligations.EndedExecutionTakesNoStep := by
  refine fun s => ⟨fun e status fresh => ?_, fun e status stale => ?_, fun r status => ?_, fun e code status => ?_⟩
  · simp [step, status, afterException, fresh]
  · simp [step, status, afterException, stale]
  · rw [step, status]
  · rw [step, status]

theorem orPin_false (b : PinBits) (p : Pin) : orPin b false p = b := by
  cases p <;> simp [orPin]

theorem pinBit_orPin_true (b : PinBits) (p : Pin) : pinBit (orPin b true p) p = true := by
  cases p <;> simp [orPin, pinBit]

/-- Settles O58: an assertion of a masked pin is at most held. -/
theorem maskedPinIsNotAnswered : Obligations.MaskedPinIsNotAnswered := by
  intro s p masked
  refine ⟨_, by rw [assertPin, if_pos masked], rfl, fun notLatched => ?_, fun latched => ?_⟩
  · rw [notLatched, orPin_false]
  · rw [latched]
    exact pinBit_orPin_true s.heldEvents p

end Sys2Proof.Machine
end

section
/-! PROOF. The remaining lines 0 to 8 of R120: forbidden bytes, another leaf, the banks, the other processors of the
package. -/

namespace Sys2Proof.Machine

/-! ### The conditions, against what acceptance asks for -/

/-- D28: an absent entry of type 5 counts as a clear bit 6. -/
theorem mcaHandling_eq_false {c : Config} (h : c.mcaHandlingEntry = none ∨ c.mcaHandlingEntry = some false) :
    c.mcaHandling = false := by
  obtain absent | clear := h
  · rw [Config.mcaHandling, absent]
    rfl
  · rw [Config.mcaHandling, clear]
    rfl

theorem not_noMachineCheck_of_uncorrectable {s : State} {i : Nat}
    (unhandled : s.cfg.mcaHandlingEntry = none ∨ s.cfg.mcaHandlingEntry = some false) (bank : i < s.mcBankCount)
    (uncorrectable : s.cfg.isUncorrectable (s.mcStatus i) = true) : ¬ NoMachineCheck s := fun ok => by
  simp [ok.banks (mcaHandling_eq_false unhandled) i bank] at uncorrectable

theorem not_secondariesIdle {s : State} {p : Rlp} (member : p ∈ s.rlps) (samePackage : p.samePackage = true)
    (enabled : p.enabled = true)
    (busy : p.cr0CD = true ∨ p.activity ≠ .waitForSipi ∧ p.activity ≠ .senterSleep) : ¬ SecondariesIdle s :=
  fun ok => by
    obtain ⟨cd, idle⟩ := ok p member samePackage enabled
    obtain cdSet | ⟨notWaiting, notSleeping⟩ := busy
    · simp [cd] at cdSet
    · exact idle.elim notWaiting notSleeping

/-! ### Another leaf -/

/-- The leaf number comes directly after the forbidden bytes (R104, log 13). -/
theorem preLaunch_of_otherLeaf {before : List PrefixByte} {s : State} (allowed : carriesForbidden before = false)
    (other : s.eax ≠ 2#32) : preLaunch before s = .otherLeaf := by
  simp [preLaunch, allowed, enteraccsLeaf, other]

/-! ### The statements -/

/-- Settles O13: a bank below the count refutes that no bank holds an uncorrectable error. -/
theorem uncorrectableErrorRaisesGp : Obligations.UncorrectableErrorRaisesGp :=
  fun _ _ _ available unhandled bank uncorrectable =>
    exec_of_not_checksPass available fun ok =>
      not_noMachineCheck_of_uncorrectable unhandled bank uncorrectable ok.noMachineCheck

/-- Settles O16: the processor refutes that all enabled ones of the package are idle with `CR0.CD = 0`. -/
theorem busySecondaryRaisesGp : Obligations.BusySecondaryRaisesGp :=
  fun _ _ _ available member samePackage enabled busy =>
    exec_of_not_checksPass available fun ok =>
      not_secondariesIdle member samePackage enabled busy ok.secondaries

/-- Settles O7: line 0, which reads nothing of the state. -/
theorem forbiddenByteRaisesInvalidOpcode : Obligations.ForbiddenByteRaisesInvalidOpcode := fun before _ forbidden =>
  exec_of_preLaunch_ud (preLaunch_of_carriesForbidden ((carriesForbidden_eq_true_iff before).mpr forbidden))

/-- Settles O8: the leaf number is the second thing the leaf looks at. -/
theorem otherLeafIsRefused : Obligations.OtherLeafIsRefused := by
  intro before s allowed other
  rw [exec_getsecEnteraccs, enteraccs,
    preLaunch_of_otherLeaf ((carriesForbidden_eq_false_iff before).mpr allowed) other]

end Sys2Proof.Machine
end

section
/-! PROOF. Which outcome each line of R120 gives, in its order (R217): the TXT shutdowns with the cause each name stands
for (R172) and the state they leave, and the platform without which a launch has no meaning (R253, R254). -/

namespace Sys2Proof.Machine

/-! ### The names of a TXT shutdown and their causes (R172) -/

/-- What each error name says of the module. -/
def ShutdownCause (d : Draws) (s : State) : TxtError → Prop
  | .badACMMType => ¬ AcramWriteBack s
  | .unsupportedACM => ¬ KindAccepted s.cfg (s.loadedHeader d)
  | .authenticateFail => ¬ ModuleAuthentic d s
  | .unexpectedHITM => HitmUnexpected (s.finalHeader d) d.hitm
  | .badACMFormat => ¬ HeaderConsistent s.cfg s.acSize d.hitm (s.finalHeader d)

/-- Lines 14 to 16 name what they found. -/
theorem shutdownCause_of_loadFault {d : Draws} {s : State} {e : TxtError} (base : s.acBase % 4096 = 0)
    (fault : (s.loaded d).loadFault d = some e) : ShutdownCause d s e := by
  rw [loadFault_loaded] at fault
  split at fault
  · rename_i notWb
    cases fault
    exact fun wb => by simp [(acramIsWb_iff base).mpr wb] at notWb
  · split at fault
    · rename_i notKind
      cases fault
      exact fun kind => by simp [(kindSupported_iff _ _).mpr kind] at notKind
    · split at fault
      · rename_i notKey
        cases fault
        exact fun auth => by simp [((moduleAuthentic_iff d s).mp auth).1] at notKey
      · simp at fault

/-- Lines 17 to 24 name what they found. -/
theorem shutdownCause_of_moduleFault {d : Draws} {s : State} {e : TxtError} (fault : s.moduleFault d = some e) :
    ShutdownCause d s e := by
  rw [moduleFault_eq] at fault
  split at fault
  · rename_i notSignature
    cases fault
    exact fun auth => by simp [((moduleAuthentic_iff d s).mp auth).2] at notSignature
  · by_cases snoop : HitmUnexpected (s.finalHeader d) d.hitm
    · rw [formatFault_of_hitmUnexpected _ _ snoop] at fault
      cases fault
      exact snoop
    · have bad : ¬ HeaderConsistent s.cfg s.acSize d.hitm (s.finalHeader d) := fun ok => by
        simp [(formatFault_eq_none_iff _ _ _ _).mpr ⟨snoop, ok⟩] at fault
      rw [formatFault_of_not_consistent snoop bad] at fault
      cases fault
      exact bad

/-- Every TXT shutdown of a running processor: past the checks, with a name whose cause held, in what the load or
authentication left. -/
theorem shutdown_cases {d : Draws} {before : List PrefixByte} {s t : State} {e : TxtError} {code : Nat}
    (running : s.status = .running) (h : enteraccs d before s = .next t) (ended : t.status = .txtShutdown e code) :
    ShutdownCause d s e ∧ code = s.cfg.errorCode e ∧
      (t = (s.loaded d).txtShutdown e ∨ t = (s.authenticated d).txtShutdown e) := by
  obtain rfl | rfl | rfl | ⟨checks, e', fault, rfl⟩ | ⟨-, -, e', fault, rfl⟩ | ⟨-, rfl⟩ := enteraccs_cases h
  · simp at ended
  · simp at ended
  · simp at ended
  · simp only [State.txtShutdown_status, State.loaded_cfg, Status.txtShutdown.injEq] at ended
    obtain ⟨rfl, rfl⟩ := ended
    exact ⟨shutdownCause_of_loadFault checks.range.base fault, rfl, .inl rfl⟩
  · simp only [State.txtShutdown_status, State.authenticated_cfg, Status.txtShutdown.injEq] at ended
    obtain ⟨rfl, rfl⟩ := ended
    exact ⟨shutdownCause_of_moduleFault fault, rfl, .inr rfl⟩
  · simp [running] at ended

/-- Settles O26: the cause of each name is its own rules' condition. -/
theorem shutdownNamesComeFromTheirRules : Obligations.ShutdownNamesComeFromTheirRules := by
  intro d before s t e code running h ended
  obtain ⟨cause, -⟩ := shutdown_cases running h ended
  refine ⟨?_, ?_, ?_, ?_, ?_⟩ <;> (rintro rfl; exact cause)

/-- Settles O28: neither the load nor authentication writes one of these registers, and preparation set the rest. -/
theorem shutdownLeavesRegistersAndKeepsMasks : Obligations.ShutdownLeavesRegistersAndKeepsMasks := by
  rintro ⟨before⟩ s t e code running h ended
  obtain ⟨-, codeEq, rfl | rfl⟩ := shutdown_cases running h ended
  · simp [preparedMsrs, allPins, codeEq]
  · simp [preparedMsrs, allPins, codeEq]

/-! ### A module refused by line 16, 17 or one of 20 to 24 -/

/-- An unauthentic module is refused under one name, by the key's hash on line 16 or by the signature on line 17. -/
theorem enteraccs_shuts_down_of_not_authentic {d : Draws} {before : List PrefixByte} {s : State}
    (checks : ChecksPass before s) (wb : AcramWriteBack s) (kind : KindAccepted s.cfg (s.loadedHeader d))
    (bad : ¬ ModuleAuthentic d s) :
    ∃ t, enteraccs d before s = .next t ∧
      t.status = .txtShutdown .authenticateFail (s.cfg.errorCode .authenticateFail) := by
  have isWb := (acramIsWb_iff checks.range.base).mpr wb
  have isKind := (kindSupported_iff _ _).mpr kind
  cases key : keyAccepted s.cfg s.sourceBytes with
  | false =>
    exact enteraccs_shuts_down_of_loadFault checks (by simp [loadFault_loaded, isWb, isKind, key])
  | true =>
    have notSignature : signatureAccepted s.cfg (s.loadedHeader d).scratchStart s.sourceBytes = false :=
      Bool.eq_false_iff.mpr fun signature => bad ((moduleAuthentic_iff d s).mpr ⟨key, signature⟩)
    exact enteraccs_shuts_down_of_moduleFault checks (by simp [loadFault_loaded, isWb, isKind, key])
      (by simp [moduleFault_eq, notSignature])

/-- Settles O22: whichever of the two comparisons fails. -/
theorem unauthenticModuleShutsDown : Obligations.UnauthenticModuleShutsDown :=
  fun _ _ _ checks wb kind bad => enteraccs_shuts_down_of_not_authentic checks wb kind bad

/-- The conditions of R168, R170 and R171, against what consistency asks for. -/
theorem not_headerConsistent_of_entry_or_selector {c : Config} {acSize : Nat} {hitm : Bool} {h : Header}
    (bad : acSize ≤ entryOffset h hitm ∨ entryOffset h hitm < h.headerLen * 4 + h.scratchSize ∨
      (h.gdtLimit : Int) - 15 < (h.segSel : Int) ∨ h.segSel < 8 ∨ h.segSel.testBit 2 = true ∨ h.segSel % 4 ≠ 0) :
    ¬ HeaderConsistent c acSize hitm h := by
  intro ok
  rw [← entryOff_eq_entryOffset] at bad
  obtain entryHigh | entryLow | selHigh | selLow | ti | rpl := bad
  · exact absurd ok.entryHigh (Nat.not_lt.mpr entryHigh)
  · exact absurd ok.entryLow (Nat.not_le.mpr entryLow)
  · exact absurd ok.selHigh (Int.not_le.mpr selHigh)
  · exact absurd ok.selLow (Nat.not_le.mpr selLow)
  · simp [ok.selTi] at ti
  · exact rpl ok.selRpl

/-- Settles O25: each condition refutes consistency, which lines 19 to 24 decide under one name. -/
theorem badEntryOrSelectorShutsDown : Obligations.BadEntryOrSelectorShutsDown := by
  rintro d before s _ rfl checks wb kind auth noSnoop bad
  exact enteraccs_shuts_down_of_formatFault checks wb kind auth
    (formatFault_of_not_consistent noSnoop (not_headerConsistent_of_entry_or_selector bad))

/-! ### The order of all the lines (R217) -/

theorem enteraccs_of_preLaunch_ud {before : List PrefixByte} {s : State} (d : Draws) (h : preLaunch before s = .ud) :
    enteraccs d before s = .next (s.takeException .ud) := by
  rw [enteraccs, h]

theorem enteraccs_of_preLaunch_vmExit {before : List PrefixByte} {s : State} (d : Draws)
    (h : preLaunch before s = .vmExit) : enteraccs d before s = .next s.takeVmExit := by
  rw [enteraccs, h]

/-- Lines 4 to 8, for every free value: none has been used yet. -/
theorem enteraccs_of_not_checksPass {before : List PrefixByte} {s : State} (d : Draws)
    (available : LeafAvailable before s) (h : ¬ ChecksPass before s) :
    enteraccs d before s = .next (s.takeException (.gp 0#32)) := by
  have gp : preLaunch before s = .gp := by
    have notPass : preLaunch before s ≠ .pass := mt (preLaunch_eq_pass_iff before s).mp h
    rw [preLaunch_of_available available] at notPass ⊢
    exact if_pos (Classical.byContradiction fun passes => notPass (if_neg passes))
  rw [enteraccs, gp]

/-- An execution has one outcome. -/
theorem status_eq_of_answer {o : Host.Outcome State Fault Refusal} {t : State} {x : Status} (h : o = .next t)
    (known : ∃ t', o = .next t' ∧ t'.status = x) : t.status = x := by
  obtain ⟨t', h', status⟩ := known
  rw [Host.Outcome.next.inj (h.symm.trans h')]
  exact status

/-- Settles O27: on a ready platform the leaf answers, and the conditions of each clause leave one answer. -/
theorem firstFailingLineDecidesTheOutcome : Obligations.FirstFailingLineDecidesTheOutcome := by
  intro d before s running leaf platform
  obtain ⟨t, h⟩ := exists_enteraccs_eq_next d before leaf platform
  have ud (line : preLaunch before s = .ud) : t.status = .exception .ud :=
    status_eq_of_answer h ⟨_, enteraccs_of_preLaunch_ud d line, rfl⟩
  refine ⟨t, h, ?forbidden, ?smxe, ?nonRoot, ?unsupported, ?gp, ?memType, ?kind, ?authentic, ?header, ?launched⟩
  case forbidden =>
    exact fun forbidden => ud (preLaunch_of_carriesForbidden ((carriesForbidden_eq_true_iff before).mpr forbidden))
  case smxe => exact fun smxe => ud (preLaunch_of_smxe_clear before leaf smxe)
  case nonRoot =>
    intro allowed smxe nonRoot
    have line := preLaunch_of_nonRoot ((carriesForbidden_eq_false_iff before).mpr allowed) leaf smxe nonRoot
    exact ⟨_, status_eq_of_answer h ⟨_, enteraccs_of_preLaunch_vmExit d line, rfl⟩⟩
  case unsupported =>
    intro notNonRoot unsupported
    cases smxe : s.cr4SMXE with
    | false => exact ud (preLaunch_of_smxe_clear before leaf smxe)
    | true => exact ud (preLaunch_of_unsupported before leaf smxe notNonRoot unsupported)
  case gp =>
    exact fun available fails => status_eq_of_answer h ⟨_, enteraccs_of_not_checksPass d available fails, rfl⟩
  case memType =>
    exact fun checks notWb => ⟨_, status_eq_of_answer h (enteraccs_shuts_down_of_loadFault checks
      (loadFault_of_not_writeBack d checks.range.base notWb))⟩
  case kind =>
    exact fun checks wb notKind => ⟨_, status_eq_of_answer h (enteraccs_shuts_down_of_loadFault checks
      (loadFault_of_not_kindAccepted checks.range.base wb notKind))⟩
  case authentic =>
    exact fun checks wb kind notAuth => ⟨_, status_eq_of_answer h
      (enteraccs_shuts_down_of_not_authentic checks wb kind notAuth)⟩
  case header =>
    refine fun checks wb kind auth => ⟨fun snoop => ?_, fun noSnoop bad => ?_⟩
    · exact ⟨_, status_eq_of_answer h (enteraccs_shuts_down_of_formatFault checks wb kind auth
        (formatFault_of_hitmUnexpected _ _ snoop))⟩
    · exact ⟨_, status_eq_of_answer h (enteraccs_shuts_down_of_formatFault checks wb kind auth
        (formatFault_of_not_consistent noSnoop bad))⟩
  case launched =>
    exact fun checks accepted => status_eq_of_answer h
      ⟨_, enteraccs_of_ready ⟨checks, accepted, platform⟩, (State.launched_status _ _ s).trans running⟩

/-! ### The platform (R253, R254) -/

/-- An address that R253 forbids, where the model finds one. -/
theorem exists_type_not_allowed {s : State} (base : s.acBase % 4096 = 0) (h : s.outsideTypesAllowed = false) :
    ∃ a, ¬ (s.acBase ≤ a ∧ a < s.acEnd) ∧ s.memTypeOf a ∉ s.cfg.memTypesAllowed := by
  have fails := mt (outsideTypesAllowed_iff base).mpr (Bool.eq_false_iff.mp h)
  simp only [Classical.not_forall] at fails
  obtain ⟨a, outside, notAllowed⟩ := fails
  exact ⟨a, outside, notAllowed⟩

/-- A processor that R254 forbids, where the model finds one. -/
theorem exists_processor_not_idle {s : State} (h : s.platformIdle = false) :
    ∃ p ∈ s.rlps, p.samePackage = false ∧ p.activity ≠ .waitForSipi ∧ p.activity ≠ .senterSleep := by
  have fails := mt (platformIdle_iff s).mpr (Bool.eq_false_iff.mp h)
  simp only [Classical.not_forall, not_or] at fails
  obtain ⟨p, member, other, notWaiting, notSleeping⟩ := fails
  exact ⟨p, member, other, notWaiting, notSleeping⟩

/-- Settles O29: the memory types are asked first, then the processors; one of the two has failed. -/
theorem unreadyPlatformIsRefused : Obligations.UnreadyPlatformIsRefused := by
  intro before s checks accepted notReady
  have base := checks.range.base
  rw [exec_getsecEnteraccs, enteraccs_of_checks _ checks, launch_of_accepted _ base accepted]
  cases outside : s.outsideTypesAllowed with
  | false => exact .inl ⟨rfl, exists_type_not_allowed base outside⟩
  | true =>
    have notIdle : s.platformIdle = false :=
      Bool.eq_false_iff.mpr fun idle => notReady ((platformReady_iff base).mpr ⟨outside, idle⟩)
    rw [notIdle]
    exact .inr ⟨rfl, exists_processor_not_idle notIdle⟩

end Sys2Proof.Machine
end

section
/-! PROOF. The state a launch leaves: `IA32_MISC_ENABLE` (R151), the saved registers (R186 to R189), the selectors
(R191, R192), the frame (R200), the mode (R201), the signals it answers (R197) and where its next instruction is fetched
(R86). -/

namespace Sys2Proof.Machine

/-! ### `IA32_MISC_ENABLE` (R151, D12) -/

theorem getLsbD_thermalBit : ∀ i, i < 64 → thermalBit.getLsbD i = decide (i = 3) := by
  decide

theorem getLsbD_newMiscEnable (maskConst : Word) (otherThermal : Bool) (old : Word) {i : Nat} (h : i < 64) :
    (newMiscEnable maskConst otherThermal old).getLsbD i =
      if i = 3 then old.getLsbD 3 || !otherThermal else old.getLsbD i && maskConst.getLsbD i := by
  rw [newMiscEnable]
  by_cases isThermal : i = 3
  · subst isThermal
    split
    · rename_i on
      rw [BitVec.getLsbD_or, getLsbD_thermalBit 3 h, on]
      simp
    · rename_i off
      rw [getLsbD_clearBits _ _ h, getLsbD_thermalBit 3 h, Bool.eq_false_iff.mpr off]
      simp
  · split
    · simp [getLsbD_thermalBit i h, isThermal]
    · simp [getLsbD_clearBits _ _ h, getLsbD_thermalBit i h, isThermal]

/-- Settles O19: no later line writes the register again (R194). -/
theorem miscEnableIsInitialised : Obligations.MiscEnableIsInitialised := by
  intro before s t i checks h hi
  have prepared : t.msr.miscEnable = newMiscEnable s.cfg.maskConst s.otherThermalMonitor s.msr.miscEnable := by
    rw [exec_getsecEnteraccs] at h
    obtain ⟨e, rfl⟩ | ⟨e, rfl⟩ | rfl := enteraccs_cases_of_checks checks h
    · simp [preparedMsrs]
    · simp [preparedMsrs]
    · simp [launchMsrs, preparedMsrs]
  rw [prepared, getLsbD_newMiscEnable _ _ _ hi]

/-! ### What the leaf saves (R186 to R189, D19, D20) -/

theorem savedIp_of_in64 {s : State} (hi : Half) (len : Nat) (long : s.in64 = true) :
    savedIp hi len s = s.rip + BitVec.ofNat 64 len :=
  if_pos long

theorem savedIp_of_not_in64 {s : State} (hi : Half) (len : Nat) (notLong : s.in64 = false) :
    savedIp hi len s = Word.ofHalves hi (s.rip.lo + BitVec.ofNat 32 len) := by
  simp [savedIp, notLong]

theorem savedGdtBase_of_inIa32e {s : State} (hi : Half) (ia32e : s.inIa32e = true) :
    savedGdtBase hi s = s.gdtr.base :=
  if_pos ia32e

theorem savedGdtBase_of_not_inIa32e {s : State} (hi : Half) (notIa32e : s.inIa32e = false) :
    savedGdtBase hi s = Word.ofHalves hi s.gdtr.base.lo := by
  simp [savedGdtBase, notIa32e]

theorem launchDr7_hi : launchDr7.hi = 0#32 := by
  decide

/-- Two 16-bit values joined (R8), as a number. -/
theorem toNat_append_16 (hi lo : BitVec 16) : (hi ++ lo).toNat = hi.toNat * 2 ^ 16 + lo.toNat := by
  rw [BitVec.toNat_append, ← Nat.shiftLeft_add_eq_or_of_lt lo.isLt, Nat.shiftLeft_eq]

/-- Settles O32: the saved values are those of the entry state, no register being written before them (R181). -/
theorem launchSavesTheCallersState : Obligations.LaunchSavesTheCallersState := by
  intro before s ready
  refine ⟨_, enteraccs_of_ready ready, ?_⟩
  rw [State.launched_gpr, State.launched_dbg]
  refine ⟨savedIp_of_in64 _ _, fun notLong => ?_, ?_, savedGdtBase_of_inIa32e _, fun notIa32e => ?_, ?_, launchDr7_hi⟩
  · rw [launchGprs, savedIp_of_not_in64 _ _ notLong, Word.lo_ofHalves, BitVec.toNat_add, BitVec.toNat_ofNat,
      Nat.add_mod_mod]
  · rw [launchGprs, savedLimitCs, Word.lo_ofHalves]
    exact toNat_append_16 s.gdtr.limit s.seg.cs.sel
  · rw [launchGprs, savedGdtBase_of_not_inIa32e _ notIa32e, Word.lo_ofHalves]
  · rw [launchGprs, Word.lo_ofHalves]

/-! ### The selectors (R171, R191, R192) -/

/-- A selector with `TI = 0` and `RPL = 0` is a multiple of 8. -/
theorem mod_eight_of_ti_rpl {sel : Nat} (ti : sel.testBit 2 = false) (rpl : sel % 4 = 0) : sel % 8 = 0 := by
  rw [Nat.testBit_eq_decide_div_mod_eq, decide_eq_false_iff_not] at ti
  omega

/-- Settles O34: R170 keeps the selector 15 below a limit of 16 bits. -/
theorem launchedSelectorsAreProper : Obligations.LaunchedSelectorsAreProper := by
  intro before s ready
  obtain ⟨-, limit, sel⟩ := launchedHeader_fits ready
  obtain ⟨-, -, -, -, -, -, selHigh, selLow, ti, rpl⟩ := ready.module.header
  have multiple := mod_eight_of_ti_rpl ti rpl
  refine ⟨_, enteraccs_of_ready ready, ?_⟩
  rw [State.launched_seg, toNat_launchCs_sel (by omega), toNat_launchDs_sel sel]
  exact ⟨selLow, by omega, multiple, rfl, rfl⟩

/-! ### The frame (R200, D18) -/

/-- Settles O37: every field the leaf does not name is copied, and the drain only completes what memory was already seen
to hold. -/
theorem launchFrame : Obligations.LaunchFrame := by
  intro before s ready
  refine ⟨_, enteraccs_of_ready ready, ?_, ?_, ?_, ?_, ?_, fun a => ?_⟩
  · simp [launchGprs]
  · simp [launchCtrl]
  · simp [launchMsrs, preparedMsrs]
  · simp
  · simp
  · rw [memView_of_drained (State.launched_outgoing _ _ s), State.launched_mem]

/-! ### The mode (R201) and the signals (R197) -/

/-- A leaf that leaves a running processor running has launched. -/
theorem launched_of_running {before : List PrefixByte} {s t : State} (running : s.status = .running)
    (h : exec (.getsecEnteraccs before) s = .next t) (launched : t.status = .running) :
    LaunchReady (drawsAt s.draws) before s ∧ t = s.launched (drawsAt s.draws) (2 + before.length) := by
  have ready := launchedOnlyWhenEveryConditionHolds before s t running h launched
  exact ⟨ready, Host.Outcome.next.inj (h.symm.trans (enteraccs_of_ready ready))⟩

/-- A bit of `CR0` other than `PG`, `AM` and `WP` is kept (R182). -/
theorem getLsbD_launched_cr0 (d : Draws) (len : Nat) (s : State) {i : Nat} (h : i < 64)
    (kept : i ≠ 31 ∧ i ≠ 18 ∧ i ≠ 16) : (s.launched d len).ctrl.cr0.getLsbD i = s.ctrl.cr0.getLsbD i := by
  rw [State.launched_ctrl, getLsbD_launchCtrl_cr0 _ h]
  simp [kept]

@[simp] theorem State.launched_cr0PE (d : Draws) (len : Nat) (s : State) : (s.launched d len).cr0PE = s.cr0PE :=
  getLsbD_launched_cr0 d len s (by decide) (by decide)
@[simp] theorem State.launched_cr0NE (d : Draws) (len : Nat) (s : State) : (s.launched d len).cr0NE = s.cr0NE :=
  getLsbD_launched_cr0 d len s (by decide) (by decide)
@[simp] theorem State.launched_cr0CD (d : Draws) (len : Nat) (s : State) : (s.launched d len).cr0CD = s.cr0CD :=
  getLsbD_launched_cr0 d len s (by decide) (by decide)
@[simp] theorem State.launched_cr0NW (d : Draws) (len : Nat) (s : State) : (s.launched d len).cr0NW = s.cr0NW :=
  getLsbD_launched_cr0 d len s (by decide) (by decide)

/-- Of `CR4` only `MCE` is written (R183). -/
@[simp] theorem State.launched_cr4SMXE (d : Draws) (len : Nat) (s : State) :
    (s.launched d len).cr4SMXE = s.cr4SMXE := by
  rw [State.cr4SMXE, State.launched_ctrl, getLsbD_launchCtrl_cr4 _ (by decide)]
  rfl
@[simp] theorem State.launched_cr4MCE (d : Draws) (len : Nat) (s : State) : (s.launched d len).cr4MCE = false := by
  rw [State.cr4MCE, State.launched_ctrl, getLsbD_launchCtrl_cr4 _ (by decide)]
  rfl

/-- The module starts at privilege level 0 (R191, G9). -/
theorem launchCs_dpl (segSel : Nat) : (launchCs segSel).dpl = 0#2 := by
  show (0x9B#8).extractLsb' 5 2 = 0#2
  decide

/-- `IA32_EFER` and `EFLAGS.VM` are cleared, so only protection matters (R184, R185). -/
theorem State.launched_mode (d : Draws) (len : Nat) {s : State} (pe : s.cr0PE = true) :
    (s.launched d len).mode = .protected32 := by
  simp [State.mode, pe, State.launched_flag_vm, State.eferLMA, launchMsrs]

/-- Outside VMX operation, once neither of its two states is (R123, R125). -/
theorem ChecksPass.notInVmx {before : List PrefixByte} {s : State} (checks : ChecksPass before s) :
    s.vmx = .notInVmx := by
  cases vmx : s.vmx with
  | notInVmx => rfl
  | root => exact absurd vmx checks.mode.notRoot
  | nonRoot => exact absurd vmx checks.available.notNonRoot

/-- Settles O41: R125 has checked what the launch does not write. -/
theorem moduleStartsInProtectedMode : Obligations.ModuleStartsInProtectedMode := by
  intro before s t running h launched
  obtain ⟨ready, rfl⟩ := launched_of_running running h launched
  have mode := ready.checks.mode
  refine ⟨State.launched_mode _ _ mode.pe, State.launched_cr0PG _ _ s, ?_, ?_, ?_,
    State.launched_cpl _ ready.module.header.selRpl, ?_, ?_, ?_, ?_, State.launched_acModeFlag _ _ s, ?_⟩
  · rw [State.launched_cr0NE, mode.ne]
  · rw [State.launched_cr0CD, mode.cd]
  · rw [State.launched_cr0NW, mode.nw]
  · rw [State.launched_seg]
    exact launchCs_dpl _
  · rw [State.launched_seg]
    rfl
  · rw [State.launched_inSmm, mode.notSmm]
  · rw [State.launched_vmx, ready.checks.notInVmx]
  · rw [State.launched_cr4SMXE, ready.checks.available.smxe]

/-- Settles O42: the pins are masked, `EFLAGS.IF` and `CR4.MCE` are 0. -/
theorem noSignalIsAnsweredAfterLaunch : Obligations.NoSignalIsAnsweredAfterLaunch := by
  intro before s t g running h launched
  obtain ⟨-, rfl⟩ := launched_of_running running h launched
  cases g with
  | init | a20m | nmi | smi => simp [State.respondsTo, allPins]
  | intr => simp [State.respondsTo, State.flag, Flag.position, launchFlags]
  | machineCheck => simp [State.respondsTo]

/-! ### A second launch (R219, R225) -/

/-- A launch leaves the leaf available to the code it starts. -/
theorem leafAvailable_of_launched {d : Draws} {before again : List PrefixByte} (len : Nat) {s : State}
    (available : LeafAvailable before s) (allowed : ∀ p ∈ again, p ≠ .lock ∧ p ≠ .repne ∧ p ≠ .rep ∧ p ≠ .opSize) :
    LeafAvailable again (s.launched d len) where
  allowed := allowed
  leaf := by
    rw [State.eax, State.launched_gpr]
    exact available.leaf
  smxe := by rw [State.launched_cr4SMXE, available.smxe]
  notNonRoot := by
    rw [State.launched_vmx]
    exact available.notNonRoot
  supported := by rw [State.launched_cfg, available.supported]

/-- Settles O44: the mode flag refuses the second launch, and the stale-IDT mark what follows. -/
theorem secondLaunchRaisesGpAndStops : Obligations.SecondLaunchRaisesGpAndStops := by
  intro before again s t running h launched allowed
  obtain ⟨ready, rfl⟩ := launched_of_running running h launched
  have available := leafAvailable_of_launched (d := drawsAt s.draws) (2 + before.length) ready.checks.available allowed
  refine ⟨exec_of_not_checksPass available fun checks => ?_, ?_⟩
  · simpa using checks.mode.notAcMode
  · exact (endedExecutionTakesNoStep _).2.1 _ rfl (State.launched_idtStale (drawsAt s.draws) (2 + before.length) s)

/-! ### Where the module's instructions are fetched (R82, R86, R199; log 11) -/

/-- The allocation ends at or below `2^32`: R129's sum rounded up to a page. -/
theorem RangeAccepted.acEnd_le {s : State} (range : RangeAccepted s) : s.acBase + acramAlloc s.acSize ≤ 2 ^ 32 := by
  obtain ⟨base, -, -, -, top⟩ := range
  rw [acramAlloc]
  omega

/-- The instruction pointer of a launch is the entry point, inside the module (R168, R199). -/
theorem toNat_launched_rip {d : Draws} {before : List PrefixByte} (len : Nat) {s : State}
    (ready : LaunchReady d before s) :
    (s.launched d len).rip.toNat = s.acBase + (s.finalHeader d).entryOff d.hitm := by
  have entryHigh := ready.module.header.entryHigh
  have top := ready.checks.range.top
  rw [State.launched_rip, toNat_launchRip (by omega)]

theorem lo_zero : Word.lo 0#64 = 0#32 := by
  decide

/-- After a launch the fetch address is the offset itself, while it stays below `2^32`. -/
theorem fetchLinear_launched {d : Draws} {len : Nat} {s : State} (pe : s.cr0PE = true) {off k : Nat}
    (rip : (s.launched d len).rip = launchRip s.acBase off) (below : s.acBase + off + k < 2 ^ 32) :
    (s.launched d len).fetchLinear k = s.acBase + off + k := by
  have notLong : (s.launched d len).in64 = false := by
    rw [State.in64, State.launched_mode d len pe]
    rfl
  have flat : (s.launched d len).seg.cs.base.lo = 0#32 := by
    rw [State.launched_seg]
    exact lo_zero
  rw [State.fetchLinear, notLong, flat, rip, launchRip, Word.lo_ofHalves, if_neg (by decide), BitVec.zero_add,
    ← BitVec.ofNat_add, BitVec.toNat_ofNat, Nat.mod_eq_of_lt below]

/-- ACRAM's bytes are what the ILP reads in its range (R78). -/
theorem ilpRead_launched (d : Draws) (len : Nat) {s : State} {o : Nat} (h : o < acramAlloc s.acSize) :
    (s.launched d len).ilpRead (s.acBase + o) = (s.finalBytes d).getD o unlistedByte := by
  simp [State.ilpRead, AcRam.covers, h]

/-- Settles O40: paging is off and `CS` is flat, and the allocation is below `2^32`. -/
theorem nextFetchIsServedByAcram : Obligations.NextFetchIsServedByAcram := by
  intro before s t k running h launched inside
  obtain ⟨ready, rfl⟩ := launched_of_running running h launched
  have ends := ready.checks.range.acEnd_le
  rw [toNat_launched_rip _ ready, State.launched_acram] at inside ⊢
  simp only [State.length_finalBytes, Nat.add_sub_cancel_left] at inside ⊢
  constructor
  · rw [State.translate, State.launched_cr0PG,
      fetchLinear_launched ready.checks.mode.pe (State.launched_rip _ _ s) (by omega)]
    rfl
  · rw [Nat.add_assoc, ilpRead_launched _ _ inside]
    rfl

/-! ### What opens the chipset's spaces (R198) -/

/-- Settles O53: the four ends without the message leave the space closed; the launch comes after every check. -/
theorem onlyAuthenticLaunchOpensPrivateSpace : Obligations.OnlyAuthenticLaunchOpensPrivateSpace := by
  intro s t h closed opened
  obtain ⟨executing, rfl | rfl | rfl | ⟨before, checks, ⟨e, rfl⟩ | ⟨e, rfl⟩ | ⟨ready, rfl⟩⟩⟩ :=
    step_next_cases_of_checks h
  · simp [closed] at opened
  · simp [closed] at opened
  · simp [closed] at opened
  · simp [closed] at opened
  · simp [closed] at opened
  · have entry : (s.finalHeader (drawsAt s.draws)).entryOff (drawsAt s.draws).hitm < acramAlloc s.acSize :=
      Nat.lt_of_lt_of_le ready.module.header.entryHigh (le_acramAlloc s.acSize)
    rw [toNat_launched_rip _ ready, State.launched_acram, State.launched_status, State.length_finalBytes]
    exact ⟨ready.module.authentic, ready.module.writeBack, checks.mode.cpl, checks.mode.notSmm, checks.notInVmx,
      executing.status, State.launched_acModeFlag _ _ s, Nat.le_add_right _ _, Nat.add_lt_add_left entry _⟩

end Sys2Proof.Machine
end

section
/-! PROOF. What ACRAM holds after a load and after authentication: the module, its scratch area and its pad (R72, R77,
R78, R154, R161; D1, D13), the ILP's own stores among the module's bytes (R83, D23), and every other free value (D16,
D19). -/

namespace Sys2Proof.Machine

/-! ### The bytes authentication leaves -/

/-- A byte of the scratch area is a free value (R161, R162). -/
theorem getD_finalBytes_scratch {d : Draws} {s : State} {o : Nat} (x : Byte) (inside : o < acramAlloc s.acSize)
    (scratch : (s.loadedHeader d).scratchStart ≤ o ∧ o < (s.loadedHeader d).bodyStart) :
    (s.finalBytes d).getD o x = d.scratch o := by
  rw [State.finalBytes, getD_mapOffsets _ _ _ _ _ (by rwa [length_loadedBytes]), Nat.zero_add, if_pos scratch]

/-- A byte outside the scratch area is as the load left it. -/
theorem getD_finalBytes_kept {d : Draws} {s : State} {o : Nat} (x : Byte) (inside : o < acramAlloc s.acSize)
    (kept : ¬ ((s.loadedHeader d).scratchStart ≤ o ∧ o < (s.loadedHeader d).bodyStart)) :
    (s.finalBytes d).getD o x = (loadedBytes d.pad s.memView s.acBase s.acSize).getD o x := by
  rw [State.finalBytes, getD_mapOffsets _ _ _ _ _ (by rwa [length_loadedBytes]), Nat.zero_add, if_neg kept]

/-- Outside the scratch area ACRAM holds the module (R78, R154). -/
theorem getD_finalBytes_module {d : Draws} {s : State} {o : Nat} (x : Byte) (inside : o < s.acSize)
    (kept : ¬ ((s.loadedHeader d).scratchStart ≤ o ∧ o < (s.loadedHeader d).bodyStart)) :
    (s.finalBytes d).getD o x = s.memView.read (s.acBase + o) := by
  rw [getD_finalBytes_kept x (Nat.lt_of_lt_of_le inside (le_acramAlloc _)) kept, getD_loadedBytes _ _ _ _ _ _ inside]

/-- Past the module and outside the scratch area ACRAM holds the pad (R77, D13). -/
theorem getD_finalBytes_pad {d : Draws} {s : State} {o : Nat} (x : Byte) (past : s.acSize ≤ o)
    (inside : o < acramAlloc s.acSize)
    (kept : ¬ ((s.loadedHeader d).scratchStart ≤ o ∧ o < (s.loadedHeader d).bodyStart)) :
    (s.finalBytes d).getD o x = d.pad o := by
  rw [getD_finalBytes_kept x inside kept, getD_loadedBytes_pad _ _ _ _ _ _ past inside]

/-- Settles O38: the launch leaves ACRAM as authentication did. -/
theorem acramHoldsTheModule : Obligations.AcramHoldsTheModule := by
  rintro before s _ rfl ready
  refine ⟨_, enteraccs_of_ready ready, ?_⟩
  rw [State.launched_acram]
  exact ⟨rfl, rfl, State.length_finalBytes _ s, fun o inside kept => getD_finalBytes_module _ inside kept⟩

/-! ### Fields of the header (R72, R155) -/

/-- A field is the little-endian number of the bytes it stands for, wherever they were copied from. -/
theorem fieldValue_eq_littleEndian {pad : Nat → Byte} {ram : List Byte} {mem : Memory} :
    ∀ (w off a : Nat), (∀ k, k < w → ram.getD (off + k) (pad (off + k)) = mem.read (a + k)) →
      fieldValue pad ram off w = littleEndian (mem.readBytes a w)
  | 0, _, _, _ => rfl
  | w + 1, off, a, copied => by
    have tail : ∀ k, k < w → ram.getD (off + 1 + k) (pad (off + 1 + k)) = mem.read (a + 1 + k) := fun k hk => by
      rw [Nat.add_assoc, Nat.add_assoc, Nat.add_comm 1 k]
      exact copied (k + 1) (Nat.succ_lt_succ hk)
    rw [fieldValue, Memory.readBytes, littleEndian, fieldValue_eq_littleEndian w (off + 1) (a + 1) tail]
    have head : ram.getD off (pad off) = mem.read a := copied 0 (Nat.succ_pos w)
    rw [head]

/-- Settles O39: every byte of the field is a byte of the module, which authentication has not overwritten. -/
theorem headerFieldIsLittleEndianInMemory : Obligations.HeaderFieldIsLittleEndianInMemory := by
  intro d s f inModule outside
  rw [State.authenticated_acram]
  refine fieldValue_eq_littleEndian _ _ _ fun k hk => ?_
  have inside : f.off + k < s.acSize := by omega
  have kept : ¬ ((s.loadedHeader d).scratchStart ≤ f.off + k ∧ f.off + k < (s.loadedHeader d).bodyStart) := by
    rw [Header.scratchStart, Header.bodyStart]
    omega
  rw [getD_finalBytes_module _ inside kept, Nat.add_assoc]

/-! ### The free values (D13, D16, D19) -/

/-- Settles O55: each outcome past the checks has spent one draw, and the launch writes no other value over a free
one. -/
theorem freeValuesComeFromTheDraw : Obligations.FreeValuesComeFromTheDraw := by
  refine ⟨fun before s t checks h => ?_, ?_⟩
  · rw [exec_getsecEnteraccs] at h
    obtain ⟨e, rfl⟩ | ⟨e, rfl⟩ | rfl := enteraccs_cases_of_checks checks h
    · simp [drawsAt]
    · simp [drawsAt]
    · simp [drawsAt]
  · rintro before s _ rfl ready
    refine ⟨_, enteraccs_of_ready ready, ?_⟩
    rw [State.launched_acram, State.launched_gpr]
    refine ⟨fun o inside => ?_, fun notLong => ?_, ?_, fun notIa32e => ?_, ?_⟩
    · rw [State.length_finalBytes] at inside
      refine ⟨getD_finalBytes_scratch _ inside, fun kept past => ?_⟩
      exact getD_finalBytes_pad _ past inside kept
    · rw [launchGprs, savedIp_of_not_in64 _ _ notLong, Word.hi_ofHalves]
      rfl
    · rw [launchGprs, savedLimitCs, Word.hi_ofHalves]
      rfl
    · rw [launchGprs, savedGdtBase_of_not_inIa32e _ notIa32e, Word.hi_ofHalves]
      rfl
    · rw [launchGprs, Word.hi_ofHalves]
      rfl

/-! ### The ILP's own stores (R83, R84) -/

/-- Completing the transactions leaves the newest store to each address. -/
theorem read_complete (a : Nat) :
    ∀ (q : List Outgoing) {m : Memory}, Memory.wf m = true →
      Memory.read (Memory.complete m q) a = (newestStore a q).getD (Memory.read m a)
  | [], _, _ => rfl
  | .io _ _ :: q, _, wf => read_complete a q wf
  | .store b v :: q, m, wf => by
    rw [Memory.complete, read_complete a q (Memory.wf_write b v wf), Memory.read_write b a v wf, newestStore]
    cases newestStore a q with
    | some newer => rfl
    | none =>
      by_cases same : a = b
      · simp [same]
      · simp [same, Ne.symm same]

/-- Settles O56: the drain completes the queue, and the module is read from what it leaves. -/
theorem loadSeesTheProcessorsOwnStores : Obligations.LoadSeesTheProcessorsOwnStores := by
  intro s wf
  have view (a : Nat) : s.memView.read a = (newestStore a s.outgoing).getD (Memory.read s.mem a) :=
    read_complete a s.outgoing wf
  refine ⟨fun a => ⟨view a, view a⟩, fun d o inside => ?_⟩
  rw [State.loaded_acram, getD_loadedBytes _ _ _ _ _ _ inside, view]

end Sys2Proof.Machine
end

section
/-! PROOF. The upper halves of the inputs make no difference (R7, D7): two runs of the leaf from states that differ in
the general registers alone, with the same `EAX`, `EBX` and `ECX`. -/

namespace Sys2Proof.Machine

/-- The state with other general registers. -/
def State.withGpr (s : State) (g : Gpr) : State := { s with gpr := g }

/-- The registers agree in the halves the leaf reads (R71, R103). -/
structure SameInputs (s : State) (g : Gpr) : Prop where
  eax : g.rax.lo = s.gpr.rax.lo
  ebx : g.rbx.lo = s.gpr.rbx.lo
  ecx : g.rcx.lo = s.gpr.rcx.lo

section
variable {s : State} {g : Gpr} (same : SameInputs s g)
include same

/-! ### What the leaf reads -/

theorem eax_withGpr : (s.withGpr g).eax = s.eax := same.eax

theorem acBase_withGpr : (s.withGpr g).acBase = s.acBase := congrArg BitVec.toNat same.ebx

theorem acSize_withGpr : (s.withGpr g).acSize = s.acSize := congrArg BitVec.toNat same.ecx

theorem rangeFault_withGpr : (s.withGpr g).rangeFault = s.rangeFault := by
  rw [State.rangeFault, State.rangeFault, acBase_withGpr same, acSize_withGpr same]
  rfl

/-- Lines 0 to 8 of R120. -/
theorem preLaunch_withGpr (before : List PrefixByte) : preLaunch before (s.withGpr g) = preLaunch before s := by
  rw [preLaunch, preLaunch, eax_withGpr same, rangeFault_withGpr same]
  rfl

theorem outsideTypesAllowed_withGpr : (s.withGpr g).outsideTypesAllowed = s.outsideTypesAllowed := by
  rw [State.outsideTypesAllowed, State.outsideTypesAllowed, acBase_withGpr same, acSize_withGpr same]
  rfl

/-! ### What the leaf writes -/

/-- The load takes the same bytes (R154). -/
theorem loaded_withGpr (d : Draws) : (s.withGpr g).loaded d = (s.loaded d).withGpr g := by
  rw [State.loaded, State.load]
  have base : (s.withGpr g).prepare.acBase = s.prepare.acBase := congrArg BitVec.toNat same.ebx
  have size : (s.withGpr g).prepare.acSize = s.prepare.acSize := congrArg BitVec.toNat same.ecx
  rw [base, size]
  rfl

theorem authenticated_withGpr (d : Draws) : (s.withGpr g).authenticated d = (s.authenticated d).withGpr g := by
  rw [State.authenticated, loaded_withGpr same]
  rfl

theorem loadedHeader_withGpr (d : Draws) : (s.withGpr g).loadedHeader d = s.loadedHeader d := by
  rw [State.loadedHeader, loaded_withGpr same]
  rfl

theorem finalHeader_withGpr (d : Draws) : (s.withGpr g).finalHeader d = s.finalHeader d := by
  rw [State.finalHeader, authenticated_withGpr same]
  rfl

theorem sourceBytes_withGpr : (s.withGpr g).sourceBytes = s.sourceBytes := by
  rw [State.sourceBytes, State.sourceBytes, acBase_withGpr same, acSize_withGpr same]
  rfl

theorem acramIsWb_withGpr : (s.withGpr g).acramIsWb = s.acramIsWb := by
  rw [State.acramIsWb, State.acramIsWb, acBase_withGpr same, acSize_withGpr same]
  rfl

/-- Lines 14 to 16. -/
theorem loadFault_withGpr (d : Draws) : ((s.withGpr g).loaded d).loadFault d = (s.loaded d).loadFault d := by
  rw [loadFault_loaded, loadFault_loaded, acramIsWb_withGpr same, loadedHeader_withGpr same, sourceBytes_withGpr same]
  rfl

/-- Lines 17 to 24. -/
theorem moduleFault_withGpr (d : Draws) : (s.withGpr g).moduleFault d = s.moduleFault d := by
  rw [moduleFault_eq, moduleFault_eq, loadedHeader_withGpr same, finalHeader_withGpr same, sourceBytes_withGpr same,
    acSize_withGpr same]
  rfl

/-- Lines 25 to 27 differ in the general registers alone. -/
theorem launched_withGpr (d : Draws) (len : Nat) :
    (s.withGpr g).launched d len = (s.launched d len).withGpr (launchGprs d len (s.withGpr g)) := by
  have base : ((s.authenticated d).withGpr g).acBase = (s.authenticated d).acBase := congrArg BitVec.toNat same.ebx
  rw [← State.launched_gpr, State.launched, ← State.finalHeader, finalHeader_withGpr same,
    authenticated_withGpr same, State.complete, base]
  rfl

/-- Of the registers the leaf does not write, `RAX` is the one the two runs were given apart; `RBP` takes `EBX`. -/
theorem launchGprs_withGpr (d : Draws) (len : Nat) :
    launchGprs d len (s.withGpr g) =
      { g with
        rbx := (launchGprs d len s).rbx
        rcx := (launchGprs d len s).rcx
        rdx := (launchGprs d len s).rdx
        rbp := (launchGprs d len s).rbp } := by
  rw [launchGprs, show (s.withGpr g).gpr.rbx.lo = s.gpr.rbx.lo from same.ebx]
  rfl

end

/-! ### The two runs -/

/-- How two runs answer that differ in the general registers at entry: with the same refusal; with the same end, which
has written no general register; or both with the launch. -/
inductive RunsAgree (d : Draws) (s : State) (g : Gpr) :
    Host.Outcome State Fault Refusal → Host.Outcome State Fault Refusal → Prop where
  | refused (r : Refusal) : RunsAgree d s g (.refused r) (.refused r)
  | ended (t : State) (regs : t.gpr = s.gpr) (stopped : t.status ≠ .running) :
      RunsAgree d s g (.next t) (.next (t.withGpr g))
  | launched (len : Nat) :
      RunsAgree d s g (.next (s.launched d len)) (.next ((s.launched d len).withGpr (launchGprs d len (s.withGpr g))))

theorem launch_withGpr {s : State} {g : Gpr} (same : SameInputs s g) (d : Draws) (len : Nat) :
    RunsAgree d s g (launch d len s) (launch d len (s.withGpr g)) := by
  rw [launch, launch, loadFault_withGpr same, moduleFault_withGpr same, outsideTypesAllowed_withGpr same,
    loaded_withGpr same, authenticated_withGpr same, launched_withGpr same]
  split
  · exact .ended _ (by simp) (by simp)
  · split
    · exact .ended _ (by simp) (by simp)
    · split
      · exact .refused _
      · split
        · rename_i busy
          rw [if_pos (show (!(s.withGpr g).platformIdle) = true from busy)]
          exact .refused _
        · rename_i idle
          rw [if_neg (show ¬ (!(s.withGpr g).platformIdle) = true from idle)]
          exact .launched len

theorem enteraccs_withGpr {s : State} {g : Gpr} (same : SameInputs s g) (d : Draws) (before : List PrefixByte) :
    RunsAgree d s g (enteraccs d before s) (enteraccs d before (s.withGpr g)) := by
  rw [enteraccs, enteraccs, preLaunch_withGpr same]
  cases preLaunch before s with
  | ud => exact .ended (s.takeException .ud) rfl nofun
  | otherLeaf => exact .refused _
  | vmExit => exact .ended s.takeVmExit rfl nofun
  | gp => exact .ended (s.takeException (.gp 0#32)) rfl nofun
  | pass => exact launch_withGpr same d _

/-- Settles O54: the runs read the same inputs, so they agree, and they differ where their registers were given. -/
theorem upperHalvesOfInputsAreIgnored : Obligations.UpperHalvesOfInputsAreIgnored := by
  intro before s s' a b c eax ebx ecx entry
  have same : SameInputs s { s.gpr with rax := a, rbx := b, rcx := c } := ⟨eax, ebx, ecx⟩
  have agree := enteraccs_withGpr same (drawsAt s.draws) before
  rw [show s.withGpr _ = s' from entry.symm] at agree
  rw [exec_getsecEnteraccs, exec_getsecEnteraccs, show s'.draws = s.draws by rw [entry]]
  generalize enteraccs (drawsAt s.draws) before s = o at agree ⊢
  generalize enteraccs (drawsAt s.draws) before s' = o' at agree ⊢
  cases agree with
  | refused r => exact ⟨fun _ h => (nomatch h), fun _ h => h⟩
  | ended t regs stopped =>
    refine ⟨?_, fun _ h => (nomatch h)⟩
    intro t' h
    obtain rfl := Host.Outcome.next.inj h
    exact ⟨_, rfl, by rw [regs], fun _ running => absurd running stopped, fun _ _ => ⟨rfl, rfl⟩⟩
  | launched len =>
    refine ⟨?_, fun _ h => (nomatch h)⟩
    intro t' h
    obtain rfl := Host.Outcome.next.inj h
    refine ⟨_, rfl, ?_, fun _ _ => ?_, fun running ended => ?_⟩
    · rw [launchGprs_withGpr same, State.launched_gpr]
      rfl
    · rw [launchGprs_withGpr same, State.launched_gpr]
      exact ⟨rfl, rfl⟩
    · exact absurd ((State.launched_status _ _ s).trans running) ended

end Sys2Proof.Machine
end
